-- ==== Sys2Proof/Word.lean ====
section
/-! DEFINITION. The words of the SFT440: bytes of the register window and the fields built from them
(00 Conventions, "Numbers": little-endian, hexadecimal bytes). -/

namespace Sys2Proof

/-- One location of the register window, and one byte of a record (R152). -/
abbrev Byte := BitVec 8

/-- A two-byte field, such as a window start or a profile's S (R158, R159). -/
abbrev Word16 := BitVec 16

/-- A three-byte field: a position, a value or an aux (R122, R158). -/
abbrev Word24 := BitVec 24

/-- An offset on A0–A4 (R152). -/
abbrev Offset := BitVec 5

/-- A set of axes stored as bits: bit 0 is A, bit 3 is D (00 Conventions, "Axes"). -/
abbrev AxisSet := BitVec 4

end Sys2Proof
end

