-- ==== Sys2Proof/Syntax.lean ====
section
/-! DEFINITION. The commands of the SFT440: one constructor of `Instr` for each row of spec/opcode_table.json. -/

namespace Sys2Proof

/-- The four axes (00 Conventions, "Axes"). -/
inductive Axis where
  | A | B | C | D
  deriving DecidableEq, Repr

/-- The number of an axis, as stored in AXSEL and in reports (00 Conventions, "Axes"). -/
def Axis.idx : Axis → Fin 4
  | .A => 0 | .B => 1 | .C => 2 | .D => 3

/-- The axes in the order of their numbers. -/
def Axis.all : List Axis := [.A, .B, .C, .D]

/-- A logic level of a pin (00 Conventions, "Signal levels"). -/
inductive Level where
  | low | high
  deriving DecidableEq, Repr

/-- One of the seven gates. The gate of tag t is the number t − 1, so that every value names a gate (R68). -/
abbrev GateTag := Fin 7

/-- An entry of the Profile Table (R20). -/
abbrev ProfileNo := Fin 8

/-- The commands the part takes. Rows that name an axis, a gate, a level or a byte carry it.
The first sixteen are written to CMD as their code of Table 9-2; the rest are other accesses, resets, timed events and pins. -/
inductive Instr where
  | post
  | abort
  | flush
  | resume
  | setpos
  | limits
  | axconfig
  | axquery
  | profile
  | profquery
  | gateset
  | gateclear
  | gatequery
  | pop
  | haltall
  | softreset
  /-- A write to CMD of a code that Table 9-2 does not list (R154). -/
  | badCommand (code : Byte)
  | axpos0Read
  | rdataRead
  | iflagWrite (value : Byte)
  /-- A write to a location other than CMD and IFLAG (R152). -/
  | windowWrite (offset : Offset) (value : Byte)
  | hardwareReset
  | resetRelease
  | stepPulse (axis : Axis)
  | stepHighTimeEnd (axis : Axis)
  /-- The levels are those the STEP and DIR pins show at the sample (R113). -/
  | readbackSample (axis : Axis) (step : Level) (dir : Level)
  | dwellExpiry (axis : Axis)
  | gateTimerExpiry (gate : GateTag)
  | gateFire (gate : GateTag)
  | placeGranted
  /-- The level is the one the SENS pin shows from now on (R88). -/
  | sensPinChange (axis : Axis) (level : Level)
  | leadingEdge (axis : Axis)
  | trailingEdge (axis : Axis)
  /-- The level is the one the /FLT pin shows from now on (R114). -/
  | fltPinChange (axis : Axis) (level : Level)
  | fltAssertion (axis : Axis)
  | fltDeassertion (axis : Axis)
  /-- The level is the one the /STOP pin shows from now on (R137). -/
  | stopPinChange (level : Level)
  | stopAssertion
  | stopDeassertion
  deriving DecidableEq, Repr

end Sys2Proof
end

