-- ==== Sys2Proof/WellFormed.lean ====
section
/-! DEFINITION. Which terms of `Instr` spell a command of their row.
An axis, a gate, a level or a byte is legal by its type; two rows need a check. -/

namespace Sys2Proof

/-- The codes of Table 9-2. Every other code gives BAD_COMMAND (R154, R155). -/
def commandCodes : List Byte :=
  [0x01, 0x02, 0x03, 0x04, 0x05, 0x06, 0x07, 0x08, 0x10, 0x11, 0x18, 0x19, 0x1A, 0x20, 0x30, 0x5A]

/-- CMD in the register window (Table 9-1). -/
def offsetCMD : Offset := 0x01

/-- IFLAG in the register window (Table 9-1). -/
def offsetIFLAG : Offset := 0x04

/-- A term is well formed when it spells a command of its row: the code of a BAD_COMMAND is unknown (R154), and a
WINDOW_WRITE is not a write to CMD or IFLAG, which are other rows (R152). -/
def Instr.wf : Instr → Bool
  | .badCommand code => !(commandCodes.contains code)
  | .windowWrite offset _ => !(offset == offsetCMD) && !(offset == offsetIFLAG)
  | .post | .abort | .flush | .resume | .setpos | .limits | .axconfig | .axquery => true
  | .profile | .profquery | .gateset | .gateclear | .gatequery | .pop | .haltall | .softreset => true
  | .axpos0Read | .rdataRead | .iflagWrite _ | .hardwareReset | .resetRelease => true
  | .stepPulse _ | .stepHighTimeEnd _ | .readbackSample _ _ _ | .dwellExpiry _ => true
  | .gateTimerExpiry _ | .gateFire _ | .placeGranted => true
  | .sensPinChange _ _ | .leadingEdge _ | .trailingEdge _ => true
  | .fltPinChange _ _ | .fltAssertion _ | .fltDeassertion _ => true
  | .stopPinChange _ | .stopAssertion | .stopDeassertion => true

end Sys2Proof
end

