-- ==== Sys2Proof/Decode.lean ====
section
/-! DEFINITION. From bits to commands. The table gives no row any bits, so no word spells a command; a write on the bus
does, by its offset and byte (R152, R154). -/

namespace Sys2Proof

/-- The command that a word spells by the table's bits. No row of spec/opcode_table.json gives bits, so there is none
(log 24). -/
def decodeTableWord (_nbits _w : Nat) : Option Instr := none

/-- The command of a code of Table 9-2, or none for an unknown code (R154, R155). -/
def commandOfCode (code : Byte) : Option Instr :=
  if code = 0x01 then some .post
  else if code = 0x02 then some .abort
  else if code = 0x03 then some .flush
  else if code = 0x04 then some .resume
  else if code = 0x05 then some .setpos
  else if code = 0x06 then some .limits
  else if code = 0x07 then some .axconfig
  else if code = 0x08 then some .axquery
  else if code = 0x10 then some .profile
  else if code = 0x11 then some .profquery
  else if code = 0x18 then some .gateset
  else if code = 0x19 then some .gateclear
  else if code = 0x1A then some .gatequery
  else if code = 0x20 then some .pop
  else if code = 0x30 then some .haltall
  else if code = 0x5A then some .softreset
  else none

/-- The command that a write of a byte at an offset is: CMD runs a command, IFLAG clears flags, every other location is a
WINDOW_WRITE (R152, R154). -/
def busWrite (offset : Offset) (value : Byte) : Instr :=
  if offset = offsetCMD then (commandOfCode value).getD (.badCommand value)
  else if offset = offsetIFLAG then .iflagWrite value
  else .windowWrite offset value

/-- The command that a read of an offset is, for the two locations whose read has an effect (R152). A read of another
location changes nothing and is no command; its value is `State.readLocation`. -/
def busRead (offset : Offset) : Option Instr :=
  if offset = 0x09 then some .axpos0Read
  else if offset = 0x0D then some .rdataRead
  else none

/-- The bus write that a command is: its offset and byte. Reads, resets, events and pin changes are none
(Table 9-1, Table 9-2). -/
def Instr.busBytes : Instr → Option (Offset × Byte)
  | .post => some (offsetCMD, 0x01)
  | .abort => some (offsetCMD, 0x02)
  | .flush => some (offsetCMD, 0x03)
  | .resume => some (offsetCMD, 0x04)
  | .setpos => some (offsetCMD, 0x05)
  | .limits => some (offsetCMD, 0x06)
  | .axconfig => some (offsetCMD, 0x07)
  | .axquery => some (offsetCMD, 0x08)
  | .profile => some (offsetCMD, 0x10)
  | .profquery => some (offsetCMD, 0x11)
  | .gateset => some (offsetCMD, 0x18)
  | .gateclear => some (offsetCMD, 0x19)
  | .gatequery => some (offsetCMD, 0x1A)
  | .pop => some (offsetCMD, 0x20)
  | .haltall => some (offsetCMD, 0x30)
  | .softreset => some (offsetCMD, 0x5A)
  | .badCommand code => some (offsetCMD, code)
  | .iflagWrite value => some (offsetIFLAG, value)
  | .windowWrite offset value => some (offset, value)
  | .axpos0Read | .rdataRead | .hardwareReset | .resetRelease => none
  | .stepPulse _ | .stepHighTimeEnd _ | .readbackSample _ _ _ | .dwellExpiry _ => none
  | .gateTimerExpiry _ | .gateFire _ | .placeGranted => none
  | .sensPinChange _ _ | .leadingEdge _ | .trailingEdge _ => none
  | .fltPinChange _ _ | .fltAssertion _ | .fltDeassertion _ => none
  | .stopPinChange _ | .stopAssertion | .stopDeassertion => none

end Sys2Proof
end

