-- ==== Sys2Proof/Config.lean ====
section
/-! DEFINITION. What the part fixes by its numbers, and the two values the manual leaves free. -/

namespace Sys2Proof.Config

/-- Slots in the Slot Pool (R12). -/
def poolSlots : Nat := 32

/-- Reports the Report Queue holds (R125). -/
def reportPlaces : Nat := 16

/-- The longest quota an axis may have (R15). -/
def maxQuota : Nat := 32

/-- The high time of a step pulse in µs (R110). -/
def stepHighTime : Nat := 5

/-- The time from a pulse to its readback sample in µs (R113). -/
def sampleTime : Nat := 4

/-- The fixed filter time of /FLT and /STOP in µs (R114, R137). -/
def lineFilter : Nat := 10

/-- The shortest interval a profile allows in µs (R20). -/
def shortestInterval : Nat := 50

/-- The longest start interval a profile allows in µs (R20). -/
def longestInterval : Nat := 65535

/-- The longest ramp a profile allows in steps (R20). -/
def longestRamp : Nat := 4095

/-- The lowest position (00 Conventions, "Positions"). -/
def minPosition : Int := -8388608

/-- The highest position (00 Conventions, "Positions"). -/
def maxPosition : Int := 8388607

/-- Which of several events that fall due at one instant is taken first.
The manual lets either order occur (R83, R84, R89, R119, R129, R143, R147, R149) and gives no rule, so this is a FREE VALUE:
it has no body and nothing can be proved of it (log 3). It is read at the count of free choices made so far. -/
opaque dueChoice : Nat → Nat

/-- Whether a trailing edge falls at the instant of a mark that ends its move, or emits a pulse, at once, and is taken before
that end or pulse. R97 and R101 give both orders and nothing says which occurs, so this is a FREE VALUE like `dueChoice`
(log 25). -/
opaque markPasses : Nat → Bool

end Sys2Proof.Config
end

