-- ==== Sys2Proof/Machine/State.lean ====
section
/-! DEFINITION. The state of the SFT440 as plain data, and its value after a hardware reset. -/

namespace Sys2Proof.Machine

/-! ## Moves (chapter 1) -/

/-- The expect-mark part, with the registration part's stop distance where that part is present (R3, R4). -/
structure MarkPart where
  start : Nat
  length : Nat
  stopDistance : Option Nat
  deriving DecidableEq, Repr

/-- The kind of a move with the fields that its kind makes meaningful (R1, R2, R5). -/
inductive Task where
  | absolute (target : Int) (profile : ProfileNo) (mark : Option MarkPart)
  | relative (displacement : Int) (profile : ProfileNo) (mark : Option MarkPart)
  | seek (value : Int) (profile : ProfileNo) (setZero : Bool)
  | dwell (ms : Nat)
  deriving DecidableEq, Repr

/-- A move record as it was when POST accepted it (R1). A gate of `none` is gate tag 0. -/
structure Move where
  task : Task
  gate : Option GateTag
  tag : Byte
  deriving DecidableEq, Repr

/-! ## Reports (chapter 7) -/

/-- Details of a DONE report (R123). -/
inductive DoneDetail where
  | plain | mark | markOpen | regClamped | edge | atOnce
  deriving DecidableEq, Repr

/-- Details of a MISSED report: CLOSED and END (R123). -/
inductive MissedDetail where
  | closed | planned
  deriving DecidableEq, Repr

/-- Details of a LIMIT report (R123). -/
inductive LimitDetail where
  | min | max
  deriving DecidableEq, Repr

/-- Details of an ABORTED report (R123). -/
inductive AbortDetail where
  | running | gated | dwelling
  deriving DecidableEq, Repr

/-- The two stops, which are also the details of a STOPPED report: a /STOP assertion and HALTALL (R140). -/
inductive StopSource where
  | line | command
  deriving DecidableEq, Repr

/-- The three drive faults, which are also the details of a DRIVEFAULT report (R109, R115). -/
inductive DriveDetail where
  | driverInput | readbackStep | readbackDir
  deriving DecidableEq, Repr

/-- The kind and detail of a report: exactly the combinations of Table 7-2 (R123). -/
inductive Finding where
  | done (detail : DoneDetail)
  | short
  | missed (detail : MissedDetail)
  | seekfail
  | limit (detail : LimitDetail)
  | aborted (detail : AbortDetail)
  | stopped (source : StopSource)
  | driveFault (detail : DriveDetail)
  | gateTimeout (gate : GateTag)
  deriving DecidableEq, Repr

/-- A report as an engine builds it: all fields but the sequence (R48, R122). -/
structure Report where
  axis : Axis
  finding : Finding
  tag : Byte
  position : Int
  aux : Nat
  deriving DecidableEq, Repr

/-- A report in the Report Queue, with the sequence it received at its deposit (R126, R130). -/
structure Deposited where
  seq : Byte
  report : Report
  deriving DecidableEq, Repr

/-- Why an axis is, or is about to be, HALTED (R55). -/
inductive HaltCause where
  | none | limit | missed | seekfail | abort | stopLine | stopCmd | gateTimeout | drive
  deriving DecidableEq, Repr

/-- What an axis does once its report is deposited: CONTINUE, or HALTED with a cause (R49). -/
inductive Path where
  | cont
  | halted (cause : HaltCause)
  deriving DecidableEq, Repr

/-- A pending report with its after-deposit path (R49, R50). -/
structure Offer where
  report : Report
  path : Path
  deriving DecidableEq, Repr

/-! ## The axis engine (chapters 2 and 3) -/

/-- The ten states of an axis (R38). -/
inductive Mode where
  | disabled | idle | gated | accel | cruise | decel | dwelling | stopping | reporting | halted
  deriving DecidableEq, Repr

/-- The direction of a move (R22, R25). -/
inductive Dir where
  | plus | minus
  deriving DecidableEq, Repr

/-- The class of a step (R23). -/
inductive StepClass where
  | accel | cruise | decel
  deriving DecidableEq, Repr

/-- The next pulse to be emitted: its class and its interval in µs (R22). -/
structure PendingStep where
  cls : StepClass
  interval : Nat
  deriving DecidableEq, Repr

/-- The ramp state (R22). `elapsed` is the time in µs since the point the pending interval is measured from: the previous
pulse of the move, or the move's start (R24, R28). -/
structure Ramp where
  profile : ProfileNo
  k : Nat
  r : Nat
  stepsRun : Nat
  dir : Dir
  step : Option PendingStep
  elapsed : Nat
  deriving DecidableEq, Repr

/-- The axis configuration (R62). -/
structure AxisConfig where
  enable : Bool
  quota : Nat
  activeLevel : Level
  filter : Nat
  readback : Bool
  dirInverted : Bool
  deriving DecidableEq, Repr

/-! ## The Mark Unit (chapter 5) and filtered inputs -/

/-- A filtered input: the pin's level, the qualified level, and the time in µs for which the pin has shown the other level,
where a count is in progress (R88, R114, R137). -/
structure FilteredInput where
  pin : Level
  qualified : Level
  count : Option Nat
  deriving DecidableEq, Repr

/-- The window states NONE, WAITING, OPEN, FOUND and CLOSED (R91). -/
inductive Window where
  | unarmed | waiting | opened | found | closed
  deriving DecidableEq, Repr

/-- Whether the mark's width is being counted (R97). -/
inductive Width where
  | unarmed | counting | ended
  deriving DecidableEq, Repr

/-- The progress of a SEEK's search for its edge (R102). -/
inductive Search where
  | unarmed | armed | found
  deriving DecidableEq, Repr

/-- What the re-plan at the mark did (R99, R100). -/
inductive Registration where
  | unplanned | exact | clamped | short (overshoot : Nat)
  deriving DecidableEq, Repr

/-- The Mark Unit's move items (R87, R107). -/
structure MarkItems where
  window : Window
  position : Option Int
  width : Width
  widthCount : Nat
  search : Search
  edgeSteps : Nat
  registration : Registration
  deriving DecidableEq, Repr

/-- The empty values the move items have outside a watched move (R107). -/
def MarkItems.empty : MarkItems :=
  { window := .unarmed, position := none, width := .unarmed, widthCount := 0, search := .unarmed, edgeSteps := 0,
    registration := .unplanned }

/-! ## The Drive Check (chapter 6) -/

/-- An outstanding readback sample: the time since its pulse in µs, and the DIR level driven for that pulse (R113). -/
structure Sample where
  elapsed : Nat
  dir : Level
  deriving DecidableEq, Repr

/-- The levels that the STEP and DIR pins of an axis show at an instant: an input of the part, which can differ from what it
drives (R109). -/
structure Readback where
  step : Level
  dir : Level
  deriving DecidableEq, Repr

/-- The Drive Check (R109). `stepHigh` is the time in µs for which STEP has been high; STEP is low when there is none
(R110). `stepPin` and `dirPin` are the readback levels last known: what a sample reads that the part takes by itself (log 6). A
read of AXIN shows the pins as they are at the read, which is an input of the read (`Readback`). -/
structure DriveCheck where
  stepHigh : Option Nat
  dir : Level
  dirDue : Option Level
  stepPin : Level
  dirPin : Level
  sample : Option Sample
  flt : FilteredInput
  deriving DecidableEq, Repr

/-- One axis: its queue, engine, Mark Unit and Drive Check (R14, R37, R87, R109). -/
structure AxisState where
  mode : Mode
  queue : List Move
  current : Option Move
  held : Option Move
  plannedEnd : Option Int
  ramp : Ramp
  dwell : Nat
  intent : Option Finding
  position : Int
  limitMin : Int
  limitMax : Int
  cause : HaltCause
  offer : Option Offer
  owed : Option DriveDetail
  config : AxisConfig
  sens : FilteredInput
  mark : MarkItems
  drive : DriveCheck
  deriving DecidableEq, Repr

/-! ## The shared blocks -/

/-- A profile record with its use count (R20, R32). -/
structure Profile where
  start : Nat
  cruise : Nat
  length : Nat
  useCount : Nat
  deriving DecidableEq, Repr

/-- A gate record (R68). The timeout is in ms, a running timer in µs remaining. -/
structure Gate where
  members : AxisSet
  timeout : Nat
  arrivals : AxisSet
  timer : Option Nat
  useCount : Nat
  deriving DecidableEq, Repr

/-- The Report Queue (R125). The head is the first of `reports`. -/
structure ReportQueue where
  reports : List Deposited
  seq : Byte
  last : Axis
  pointer : Nat
  deriving DecidableEq, Repr

/-- The stop style (R139). -/
inductive StopStyle where
  | controlled | immediate
  deriving DecidableEq, Repr

/-- The result codes of Table 9-3 (R156). -/
inductive Result where
  | ok | badCommand | badParam | axisDisabled | axisBusy | noMove | notHalted | stopActive | driveActive | quotaFull
  | poolFull | gateUnset | gateMember | gateInUse | profileInUse | queueEmpty
  deriving DecidableEq, Repr

/-- The state of the part.
`inReset` says that /RESET is held low (R166); `dataOut` is the byte D0–D7 carried at the last read that is a command
(log 10). `choices` and `pending` are the model's own: the number of free choices made so far (log 3, log 25), and the commands
that wait, first in, first out (log 20). -/
structure State where
  axes : Vector AxisState 4
  poolFree : Nat
  profiles : Vector Profile 8
  gates : Vector Gate 7
  reports : ReportQueue
  stop : FilteredInput
  style : StopStyle
  block : Vector Byte 16
  cres : Result
  axsel : Axis
  snapshot : Word24
  iflag : BitVec 3
  ienable : BitVec 3
  dataOut : Byte
  inReset : Bool
  choices : Nat
  pending : List Instr
  deriving DecidableEq, Repr

/-- The reasons to stop with a fault. There are none: the manual gives the part an effect, a result code or nothing to do
in every case, and no stop of its own (log 19). -/
inductive Fault where
  deriving DecidableEq, Repr

/-- The reasons to refuse a command. -/
inductive Refusal where
  /-- Raised by an arm of `exec` for a row that has no meaning yet (none at present). Safe: nothing is claimed of it. -/
  | notModelled (mnemonic : String)
  /-- Raised by the meanings of BAD_COMMAND and WINDOW_WRITE for a term that is not well formed, which spells no command of
  that row (log 17). Safe: the part never sees such a command. -/
  | illFormed
  deriving DecidableEq, Repr

/-! ## Reset values -/

/-- The ramp state after a reset (R35). The direction and the profile number are DESIGN CHOICE (log 11). -/
def Ramp.reset : Ramp :=
  { profile := 0, k := 0, r := 0, stepsRun := 0, dir := .plus, step := none, elapsed := 0 }

/-- The configuration after a hardware reset (R62, Table 3-4). -/
def AxisConfig.reset : AxisConfig :=
  { enable := false, quota := 8, activeLevel := .high, filter := 20, readback := true, dirInverted := false }

/-- An axis after a hardware reset, its SENS pin low and its /FLT pin high (R66, R108, R121; the pins: log 4). -/
def AxisState.reset : AxisState :=
  { mode := .disabled, queue := [], current := none, held := none, plannedEnd := none, ramp := Ramp.reset, dwell := 0,
    intent := none, position := 0, limitMin := Config.minPosition, limitMax := Config.maxPosition, cause := .none,
    offer := none, owed := none, config := AxisConfig.reset,
    sens := { pin := .low, qualified := .low, count := none }, mark := MarkItems.empty,
    drive :=
      { stepHigh := none, dir := .low, dirDue := none, stepPin := .low, dirPin := .low, sample := none,
        flt := { pin := .high, qualified := .high, count := none } } }

/-- A profile entry after a hardware reset (R36). -/
def Profile.reset : Profile := { start := 4000, cruise := 1000, length := 200, useCount := 0 }

/-- A gate record after a hardware reset (R86, Table 4-2). -/
def Gate.reset : Gate := { members := 0, timeout := 0, arrivals := 0, timer := none, useCount := 0 }

/-- The part just after /RESET has returned high, its inputs at their inactive levels (R166; log 4, log 5). -/
def State.reset : State :=
  { axes := .replicate 4 AxisState.reset
    poolFree := Config.poolSlots
    profiles := .replicate 8 Profile.reset
    gates := .replicate 7 Gate.reset
    reports := { reports := [], seq := 0, last := .D, pointer := 0 }
    stop := { pin := .high, qualified := .high, count := none }
    style := .controlled
    block := .replicate 16 0
    cres := .ok
    axsel := .A
    snapshot := 0
    iflag := 0
    ienable := 0
    dataOut := 0
    inReset := false
    choices := 0
    pending := [] }

end Sys2Proof.Machine
end

