-- ==== Sys2Proof/Machine/Flags.lean ====
section
/-! DEFINITION. The interrupt flags IFLAG, the enables IENABLE and the /INT line (R163, R164). -/

namespace Sys2Proof.Machine

/-- IFLAG bit 0, latched at each deposit (R163). -/
def flagREPORT : BitVec 3 := 1

/-- IFLAG bit 1, latched at each entry of an axis into HALTED (R163). -/
def flagHALT : BitVec 3 := 2

/-- IFLAG bit 2, latched at each /STOP assertion (R163). -/
def flagSTOPIN : BitVec 3 := 4

/-- Latches a flag. A flag already set stays set, and no enable is looked at (R163, R164). -/
def State.latch (s : State) (flag : BitVec 3) : State := { s with iflag := s.iflag ||| flag }

/-- A write to IFLAG clears each flag whose bit is written 1; bits 3 to 7 are ignored (R163). -/
def State.clearFlags (s : State) (value : Byte) : State := { s with iflag := s.iflag &&& ~~~(value.setWidth 3) }

/-- Whether /INT is asserted: some flag is set and enabled (R164). -/
def State.intAsserted (s : State) : Bool := !(s.iflag &&& s.ienable == 0)

end Sys2Proof.Machine
end

