-- ==== Sys2Proof/Machine/Operands.lean ====
section
/-! DEFINITION. The layouts of the parameter block, of the reports and of the codes: how bytes become fields and fields bytes
(R122, R123, R131, R156, R158, R159, R162). -/

namespace Sys2Proof.Machine

/-! ## Little-endian fields -/

/-- An unsigned two-byte field, least significant byte first (R158). -/
def unsigned16 (b0 b1 : Byte) : Nat := (b1 ++ b0 : Word16).toNat

/-- A signed three-byte field, least significant byte first, two's complement (R158). -/
def signed24 (b0 b1 b2 : Byte) : Int := (b2 ++ b1 ++ b0 : Word24).toInt

/-- Byte `i` of a count, least significant first (R131, R159). -/
def natByte (n i : Nat) : Byte := BitVec.ofNat 8 (n / 2 ^ (8 * i))

/-- A position as a three-byte two's complement field (00 Conventions, "Positions"). -/
def positionWord (p : Int) : Word24 := BitVec.ofInt 24 p

/-- Byte `i` of a three-byte field, least significant first (R131, R161). -/
def wordByte (w : Word24) (i : Nat) : Byte := w.extractLsb' (8 * i) 8

/-- Byte `i` of a position (R131, R159). -/
def positionByte (p : Int) (i : Nat) : Byte := wordByte (positionWord p) i

/-- A Boolean as a bit of a byte. -/
def bitAt (b : Bool) (i : Nat) : Byte := if b then BitVec.ofNat 8 (2 ^ i) else 0

/-- A level as a bit of a byte: 1 is high (R162). -/
def levelBit (l : Level) (i : Nat) : Byte := bitAt (l == .high) i

/-- The other level. -/
def otherLevel : Level → Level
  | .low => .high
  | .high => .low

/-! ## Axes, gates and sets of axes -/

/-- The axis of a number 0 to 3, as AXSEL takes it (R160). -/
def axisOfByte (b : Byte) : Option Axis :=
  if b = 0 then some .A else if b = 1 then some .B else if b = 2 then some .C else if b = 3 then some .D else none

/-- The byte of an axis (R122, R160). -/
def axisByte (a : Axis) : Byte := BitVec.ofNat 8 a.idx

/-- The tag of a gate, 1 to 7 (R68). -/
def gateByte (g : GateTag) : Byte := BitVec.ofNat 8 (g + 1)

/-- The gate of a tag 1 to 7; a tag of 0 or above 7 names none (R70, R71, R72). -/
def gateOfTag (b : Byte) : Option GateTag :=
  if h : 1 ≤ b.toNat ∧ b.toNat ≤ 7 then some ⟨b.toNat - 1, by omega⟩ else none

/-- The profile of a number 0 to 7 (R33, R34, R158). -/
def profileOfByte (b : Byte) : Option ProfileNo :=
  if h : b.toNat < 8 then some ⟨b.toNat, h⟩ else none

/-- The set that holds one axis (00 Conventions, "Axes"). -/
def axisBit : Axis → AxisSet
  | .A => 1 | .B => 2 | .C => 4 | .D => 8

/-- Whether a set holds an axis (00 Conventions, "Axes"). -/
def inSet (set : AxisSet) (a : Axis) : Bool := set.getLsbD a.idx

/-! ## The move record (Table 9-4) -/

/-- Presence flag 0 of PB1: the expect-mark part (R4, R158). -/
def expectsMark (b : Vector Byte 16) : Bool := b[1].getLsbD 0

/-- Presence flag 1 of PB1: the registration part (R4, R158). -/
def registers (b : Vector Byte 16) : Bool := b[1].getLsbD 1

/-- Presence flag 2 of PB1: set-zero (R4, R158). -/
def setsZero (b : Vector Byte 16) : Bool := b[1].getLsbD 2

/-- The value field, PB2 to PB4 (R158). -/
def moveValue (b : Vector Byte 16) : Int := signed24 b[2] b[3] b[4]

/-- The gate tag, PB6: 0 is no gate, above 7 is malformed (R8, R158). -/
def moveGate (b : Vector Byte 16) : Option (Option GateTag) :=
  if b[6] = 0 then some none else (gateOfTag b[6]).map some

/-- The expect-mark and registration parts; malformed when the window length is 0, or registration comes without
expect-mark (R3, R4, R8, R158). -/
def moveMark (b : Vector Byte 16) : Option (Option MarkPart) :=
  if expectsMark b then
    if unsigned16 b[10] b[11] = 0 then none
    else some (some
      { start := unsigned16 b[8] b[9], length := unsigned16 b[10] b[11],
        stopDistance := if registers b then some (unsigned16 b[12] b[13]) else none })
  else if registers b then none
  else some none

/-- The kind, PB0, with its fields; `none` where R8 calls the record malformed (R2, R5, R8, R158). -/
def moveTask (b : Vector Byte 16) : Option Task :=
  if b[0] = 0x01 ∨ b[0] = 0x02 then
    match profileOfByte b[5], moveMark b, setsZero b with
    | some p, some mark, false =>
      some (if b[0] = 0x01 then .absolute (moveValue b) p mark else .relative (moveValue b) p mark)
    | _, _, _ => none
  else if b[0] = 0x03 then
    match profileOfByte b[5] with
    | some p =>
      if expectsMark b ∨ registers b ∨ moveValue b = 0 then none else some (.seek (moveValue b) p (setsZero b))
    | none => none
  else if b[0] = 0x04 then
    if expectsMark b ∨ registers b ∨ setsZero b ∨ moveValue b < 1 ∨ 65535 < moveValue b then none
    else some (.dwell (moveValue b).toNat)
  else none

/-- The move record in the parameter block, or `none` where it is malformed (R8, Table 9-4). -/
def moveOfBlock (b : Vector Byte 16) : Option Move :=
  match moveTask b, moveGate b with
  | some task, some gate => some { task := task, gate := gate, tag := b[7] }
  | _, _ => none

/-! ## The other parameters and the answers of the queries (Table 9-5) -/

/-- The configuration in PB0 to PB3 (R62, R159). The quota's range is checked by AXCONFIG. -/
def configOfBlock (b : Vector Byte 16) : AxisConfig :=
  { enable := b[0].getLsbD 0, quota := b[1].toNat,
    activeLevel := if b[2].getLsbD 0 then .high else .low,
    readback := b[2].getLsbD 1, dirInverted := b[2].getLsbD 2, filter := b[3].toNat }

/-- The answer of AXQUERY: the configuration and the soft limits, every other byte 0 (R64, R159). -/
def axisAnswer (x : AxisState) : Vector Byte 16 :=
  #v[bitAt x.config.enable 0, natByte x.config.quota 0,
     levelBit x.config.activeLevel 0 ||| bitAt x.config.readback 1 ||| bitAt x.config.dirInverted 2,
     natByte x.config.filter 0,
     positionByte x.limitMin 0, positionByte x.limitMin 1, positionByte x.limitMin 2,
     positionByte x.limitMax 0, positionByte x.limitMax 1, positionByte x.limitMax 2,
     0, 0, 0, 0, 0, 0]

/-- The answer of PROFQUERY: the number, S, C, L and the use count, every other byte 0 (R33, R159). -/
def profileAnswer (number : Byte) (p : Profile) : Vector Byte 16 :=
  #v[number, natByte p.start 0, natByte p.start 1, natByte p.cruise 0, natByte p.cruise 1, natByte p.length 0,
     natByte p.length 1, natByte p.useCount 0, 0, 0, 0, 0, 0, 0, 0, 0]

/-- The time left on a gate timer in whole ms, rounded up: 1 to 65535, and 0 when the timer is stopped (R72). A timer whose
expiry falls at this very instant and is not yet taken still runs and reads 1 (log 18). -/
def timerMs : Option Nat → Nat
  | none => 0
  | some us => max 1 ((us + 999) / 1000)

/-- The answer of GATEQUERY: the gate record, every other byte 0 (R72, R159). -/
def gateAnswer (tag : Byte) (g : Gate) : Vector Byte 16 :=
  #v[tag, g.members.setWidth 8, natByte g.timeout 0, natByte g.timeout 1, g.arrivals.setWidth 8,
     bitAt g.timer.isSome 0, natByte (timerMs g.timer) 0, natByte (timerMs g.timer) 1, natByte g.useCount 0,
     0, 0, 0, 0, 0, 0, 0]

/-! ## Codes -/

/-- The kind code of a report (Table 7-2). -/
def Finding.kindCode : Finding → Byte
  | .done _ => 0x01 | .short => 0x02 | .missed _ => 0x03 | .seekfail => 0x04 | .limit _ => 0x05 | .aborted _ => 0x06
  | .stopped _ => 0x07 | .driveFault _ => 0x08 | .gateTimeout _ => 0x09

/-- The detail code of a report (Table 7-2). -/
def Finding.detailCode : Finding → Byte
  | .done .plain => 0x00 | .done .mark => 0x01 | .done .markOpen => 0x02 | .done .regClamped => 0x03
  | .done .edge => 0x04 | .done .atOnce => 0x05
  | .short => 0x00
  | .missed .closed => 0x01 | .missed .planned => 0x02
  | .seekfail => 0x00
  | .limit .min => 0x01 | .limit .max => 0x02
  | .aborted .running => 0x01 | .aborted .gated => 0x02 | .aborted .dwelling => 0x03
  | .stopped .line => 0x01 | .stopped .command => 0x02
  | .driveFault .driverInput => 0x01 | .driveFault .readbackStep => 0x02 | .driveFault .readbackDir => 0x03
  | .gateTimeout g => gateByte g

/-- The after-deposit path of a report's kind (R49, Table 7-2). -/
def Finding.path : Finding → Path
  | .done _ | .short => .cont
  | .limit _ => .halted .limit
  | .missed _ => .halted .missed
  | .seekfail => .halted .seekfail
  | .aborted _ => .halted .abort
  | .stopped .line => .halted .stopLine
  | .stopped .command => .halted .stopCmd
  | .gateTimeout _ => .halted .gateTimeout
  | .driveFault _ => .halted .drive

/-- Byte `p` of a report, 0 to 10 (R131). -/
def Deposited.byte (d : Deposited) (p : Nat) : Byte :=
  match p with
  | 0 => d.seq
  | 1 => axisByte d.report.axis
  | 2 => d.report.finding.kindCode
  | 3 => d.report.finding.detailCode
  | 4 => d.report.tag
  | 5 => positionByte d.report.position 0
  | 6 => positionByte d.report.position 1
  | 7 => positionByte d.report.position 2
  | 8 => natByte d.report.aux 0
  | 9 => natByte d.report.aux 1
  | _ => natByte d.report.aux 2

/-- The code of a result, as CRES reads it (Table 9-3). -/
def Result.code : Result → Byte
  | .ok => 0x00 | .badCommand => 0x01 | .badParam => 0x02 | .axisDisabled => 0x03 | .axisBusy => 0x04 | .noMove => 0x05
  | .notHalted => 0x06 | .stopActive => 0x07 | .driveActive => 0x08 | .quotaFull => 0x09 | .poolFull => 0x0A
  | .gateUnset => 0x0B | .gateMember => 0x0C | .gateInUse => 0x0D | .profileInUse => 0x0E | .queueEmpty => 0x0F

/-- The code of an axis state, as AXSTATE reads it (Table 3-2). -/
def Mode.code : Mode → Byte
  | .disabled => 0 | .idle => 1 | .gated => 2 | .accel => 3 | .cruise => 4 | .decel => 5 | .dwelling => 6 | .stopping => 7
  | .reporting => 8 | .halted => 9

/-- The code of a halt cause, as AXCAUSE reads it (Table 9-6). -/
def HaltCause.code : HaltCause → Byte
  | .none => 0 | .limit => 1 | .missed => 2 | .seekfail => 3 | .abort => 4 | .stopLine => 5 | .stopCmd => 6
  | .gateTimeout => 7 | .drive => 8

end Sys2Proof.Machine
end

