-- ==== Sys2Proof/Machine/Ops.lean ====
section
/-! DEFINITION. The shared operations of the part, block by block: what the meanings of the commands are made of.
An operation that makes an axis offer a report leaves the axis in REPORTING with the report; `State.settle`, which closes
every command that can do so, then grants the free places (R127, R128). -/

namespace Sys2Proof.Machine

/-! ## One axis, one gate, one profile -/

/-- The state of an axis. -/
def State.ax (s : State) (a : Axis) : AxisState := s.axes[a.idx]

/-- Replaces the state of an axis. -/
def State.setAx (s : State) (a : Axis) (x : AxisState) : State := { s with axes := s.axes.set a.idx x }

/-- Changes the state of an axis. -/
def State.modAx (s : State) (a : Axis) (f : AxisState → AxisState) : State := s.setAx a (f (s.ax a))

/-- A gate record. -/
def State.gate (s : State) (g : GateTag) : Gate := s.gates[g]

/-- Changes a gate record. -/
def State.modGate (s : State) (g : GateTag) (f : Gate → Gate) : State := { s with gates := s.gates.set g (f (s.gate g)) }

/-- A profile entry. -/
def State.prof (s : State) (p : ProfileNo) : Profile := s.profiles[p]

/-- Changes a profile entry. -/
def State.modProf (s : State) (p : ProfileNo) (f : Profile → Profile) : State :=
  { s with profiles := s.profiles.set p (f (s.prof p)) }

/-- The states of the four axes, each changed alike. -/
def State.mapAxes (s : State) (f : AxisState → AxisState) : Vector AxisState 4 :=
  #v[f (s.ax .A), f (s.ax .B), f (s.ax .C), f (s.ax .D)]

/-- The seven gate records, each changed alike. -/
def State.mapGates (s : State) (f : Gate → Gate) : Vector Gate 7 :=
  #v[f (s.gate 0), f (s.gate 1), f (s.gate 2), f (s.gate 3), f (s.gate 4), f (s.gate 5), f (s.gate 6)]

/-- The eight profile entries, each changed alike. -/
def State.mapProfs (s : State) (f : Profile → Profile) : Vector Profile 8 :=
  #v[f (s.prof 0), f (s.prof 1), f (s.prof 2), f (s.prof 3), f (s.prof 4), f (s.prof 5), f (s.prof 6), f (s.prof 7)]

/-- Does one operation for each axis, in the order A to D. -/
def State.forAxes (f : Axis → State → State) (s : State) : State := f .D (f .C (f .B (f .A s)))

/-- The part takes commands and events only while /RESET is high; while it is low every block stands at its reset values
(R166; log 13). -/
def State.operating (f : State → State) (s : State) : State := if s.inReset then s else f s

/-- Places a result code in CRES (R154, R155). -/
def State.result (s : State) (r : Result) : State := { s with cres := r }

/-! ## States of an axis -/

/-- ACCEL, CRUISE and DECEL, together called the running states (R38). -/
def Mode.running : Mode → Bool
  | .accel | .cruise | .decel => true
  | .disabled | .idle | .gated | .dwelling | .stopping | .reporting | .halted => false

/-- The states in which SETPOS, LIMITS and AXCONFIG are refused with AXIS_BUSY (R60, R61, R62). -/
def Mode.busy : Mode → Bool
  | .gated | .accel | .cruise | .decel | .dwelling | .stopping | .reporting => true
  | .disabled | .idle | .halted => false

/-- The running state that shows a class of step (R26). -/
def StepClass.mode : StepClass → Mode
  | .accel => .accel
  | .cruise => .cruise
  | .decel => .decel

/-- ENA is asserted when the axis is enabled and its halt cause is not DRIVE (R56, R112). -/
def AxisState.ena (x : AxisState) : Bool := x.mode != .disabled && x.cause != .drive

/-- The STEP level driven (R110). -/
def DriveCheck.step (d : DriveCheck) : Level := if d.stepHigh.isSome then .high else .low

/-! ## Moves, the Slot Pool and use counts (chapter 1, R32, R69) -/

/-- The profile a move names; a DWELL names none (R5, R31). -/
def Task.profile? : Task → Option ProfileNo
  | .absolute _ p _ | .relative _ p _ | .seek _ p _ => some p
  | .dwell _ => none

/-- The expect-mark part of a move, where it has one (R3). -/
def Task.mark? : Task → Option MarkPart
  | .absolute _ _ mark | .relative _ _ mark => mark
  | .seek _ _ _ | .dwell _ => none

/-- Changes the use count of the profile a move names, if it names one (R32). -/
def State.modProfileUse (s : State) (m : Move) (f : Nat → Nat) : State :=
  match m.task.profile? with
  | none => s
  | some p => s.modProf p fun q => { q with useCount := f q.useCount }

/-- Changes the use count of the gate whose tag a move carries, if it carries one (R69). -/
def State.modGateUse (s : State) (m : Move) (f : Nat → Nat) : State :=
  match m.gate with
  | none => s
  | some g => s.modGate g fun q => { q with useCount := f q.useCount }

/-- Takes a free slot for a move and raises the use counts it holds (R10 steps 1 to 3). -/
def State.allocate (s : State) (m : Move) : State :=
  ({ s with poolFree := s.poolFree - 1 }.modProfileUse m (· + 1)).modGateUse m (· + 1)

/-- Returns the slot of a move that ends or is discarded, and lowers the use counts it held (R13, R18). -/
def State.release (s : State) (m : Move) : State :=
  ({ s with poolFree := s.poolFree + 1 }.modProfileUse m (· - 1)).modGateUse m (· - 1)

/-! ## Profiles and steps (chapter 2) -/

/-- The interval of ramp index j (R21). -/
def Profile.interval (p : Profile) (j : Nat) : Nat :=
  if j < p.length then p.start - j * (p.start - p.cruise) / p.length else p.cruise

/-- The class and interval of the next step, decided from k and r (R23). -/
def Profile.decide (p : Profile) (k r : Nat) : PendingStep :=
  if r ≤ k then { cls := .decel, interval := p.interval (r - 1) }
  else if k < p.length then { cls := .accel, interval := p.interval k }
  else { cls := .cruise, interval := p.cruise }

/-- The change to k at a step's pulse (R23). -/
def StepClass.nextK (c : StepClass) (k r : Nat) : Nat :=
  match c with
  | .decel => r - 1
  | .accel => k + 1
  | .cruise => k

/-- One step in a direction (R24). -/
def Dir.sign : Dir → Int
  | .plus => 1
  | .minus => -1

/-- The direction of a displacement: + if it is positive, − otherwise (R2, R40). -/
def dirOf (d : Int) : Dir := if 0 < d then .plus else .minus

/-- The stopping distance: the smaller of r and k (R29). -/
def Ramp.stoppingDistance (ρ : Ramp) : Nat := min ρ.r ρ.k

/-! ## Filtered inputs (R88, R114, R137) -/

/-- The pin shows a level. A change to the level opposite the qualified one begins a count, and a return to the qualified
level discards it; the pin's present level again is no change. -/
def FilteredInput.setPin (f : FilteredInput) (level : Level) : FilteredInput :=
  if level = f.pin then f
  else { f with pin := level, count := if level = f.qualified then none else some 0 }

/-- The count is complete: the qualified level takes the pin's level, and the count is discarded. -/
def FilteredInput.accept (f : FilteredInput) : FilteredInput := { f with qualified := f.pin, count := none }

/-- The filter compares the pin with the qualified level from this instant (R108, R166). -/
def FilteredInput.restart (f : FilteredInput) : FilteredInput :=
  { f with count := if f.pin = f.qualified then none else some 0 }

/-- 1 µs passes. -/
def FilteredInput.tick (f : FilteredInput) : FilteredInput := { f with count := f.count.map (· + 1) }

/-- Whether a count is in progress for a level: the pin shows it and its acceptance is a matter of time alone (log 1). -/
def FilteredInput.counting (f : FilteredInput) (level : Level) : Bool := f.count.isSome && f.pin == level

/-- Whether the filter time has passed. -/
def FilteredInput.due (f : FilteredInput) (time : Nat) : Bool := f.count.any (time ≤ ·)

/-- Whether a pin change leaves a level that has been shown for the whole filter time: that level is accepted at the end of
that time, and so before the change. A count is discarded only by a return before its end (R88, R114, R137). -/
def FilteredInput.leaves (f : FilteredInput) (level : Level) (time : Nat) : Bool := level != f.pin && f.due time

/-- The filter compares the pin with the qualified level from this instant; with a filter time of 0 the pin's level is accepted
at this instant (R88, R108). -/
def FilteredInput.compare (f : FilteredInput) (time : Nat) : FilteredInput :=
  let f := f.restart
  if f.due time then f.accept else f

/-! ## Drive outputs (chapter 6) -/

/-- The DIR pin level of a direction (R111). -/
def dirLevel (inverted : Bool) : Dir → Level
  | .plus => if inverted then .low else .high
  | .minus => if inverted then .high else .low

/-- DIR is driven at the start of a move with distance: at once, or as a change due while STEP is high (R111). -/
def DriveCheck.driveDir (d : DriveCheck) (level : Level) : DriveCheck :=
  if d.stepHigh.isSome then { d with dirDue := some level }
  else { d with dir := level, dirDue := none, dirPin := level }

/-- The high time ends: STEP returns low, and a DIR change due is applied (R110, R111). -/
def DriveCheck.endHigh (d : DriveCheck) : DriveCheck :=
  match d.dirDue with
  | none => { d with stepHigh := none, stepPin := .low }
  | some level => { d with stepHigh := none, stepPin := .low, dir := level, dirDue := none, dirPin := level }

/-- STEP goes high, and with the check on the readback sample of the pulse is outstanding (R110, R113).
A high time that was still open has ended before, since every interval is longer (log 14). -/
def DriveCheck.pulse (d : DriveCheck) (readback : Bool) : DriveCheck :=
  let d : DriveCheck := if d.stepHigh.isSome then d.endHigh else d
  { d with stepHigh := some 0, stepPin := .high, sample := if readback then some { elapsed := 0, dir := d.dir } else none }

/-! ## The Report Queue (chapter 7) -/

/-- A deposit: the next sequence number, the tail of the list, the last depositor and the flag REPORT (R126). -/
def State.deposit (s : State) (report : Report) : State :=
  let queue : ReportQueue :=
    { s.reports with
      reports := s.reports.reports ++ [{ seq := s.reports.seq, report := report }]
      seq := s.reports.seq + 1
      last := report.axis }
  { s with reports := queue }.latch flagREPORT

/-- The order in which the arbiter considers the axes: from the axis after the last depositor (R128). -/
def arbiterOrder : Axis → List Axis
  | .A => [.B, .C, .D, .A]
  | .B => [.C, .D, .A, .B]
  | .C => [.D, .A, .B, .C]
  | .D => [.A, .B, .C, .D]

/-- The candidate the arbiter grants the next place to, if any axis has an undeposited report (R128). -/
def State.nextCandidate (s : State) : Option Axis :=
  (arbiterOrder s.reports.last).find? fun a => (s.ax a).offer.isSome

/-- An engine has built a report and offers it with the path of its kind (R48, R49, R50). -/
def State.offerReport (s : State) (a : Axis) (finding : Finding) (tag : Byte) (aux : Nat) : State :=
  s.modAx a fun x =>
    { x with
      mode := .reporting
      offer := some
        { report := { axis := a, finding := finding, tag := tag, position := x.position, aux := aux }
          path := finding.path } }

/-! ## Ends of moves (R47) -/

/-- The current move ceases: the stop intent is cleared, the dwell timer stops, no step is pending, and the Mark Unit's
move items return to their empty values; k, r and steps run keep their values (R47 step 1, R22, R107). -/
def AxisState.clearMove (x : AxisState) : AxisState :=
  { x with
    current := none, plannedEnd := none, intent := none, dwell := 0
    ramp := { x.ramp with step := none, elapsed := 0 }
    mark := MarkItems.empty }

/-- The ends procedure: the move ceases, its slot returns, and its report is built and offered (R47). -/
def State.endMove (s : State) (a : Axis) (finding : Finding) (aux : Nat) : State :=
  match (s.ax a).current with
  | none => s
  | some m => ((s.modAx a AxisState.clearMove).release m).offerReport a finding m.tag aux

/-- The report of a mark move at its planned end (R98, Table 5-3). A window that closes at the very pulse that brings r to 0
gives END (R95, R123). -/
def MarkItems.finding (μ : MarkItems) (stepsRun : Nat) : Finding × Nat :=
  match μ.window with
  | .found =>
    match μ.registration, μ.width with
    | .short overshoot, _ => (.short, overshoot)
    | .clamped, .ended => (.done .regClamped, μ.widthCount)
    | .unplanned, .ended | .exact, .ended => (.done .mark, μ.widthCount)
    | _, .counting | _, .unarmed => (.done .markOpen, 0)
  | .unarmed | .waiting | .opened | .closed => (.missed .planned, stepsRun)

/-- The kind, detail and aux of a move that reaches its planned end (R44, R98, R104). -/
def AxisState.plannedFinding (x : AxisState) (m : Move) : Finding × Nat :=
  match m.task with
  | .absolute _ _ none | .relative _ _ none | .dwell _ => (.done .plain, 0)
  | .absolute _ _ (some _) | .relative _ _ (some _) => x.mark.finding x.ramp.stepsRun
  | .seek _ _ _ =>
    match x.mark.search with
    | .found => (.done .edge, x.mark.edgeSteps)
    | .armed | .unarmed => (.seekfail, x.ramp.stepsRun)

/-- r has reached 0: in STOPPING the move ends with the intent's report, else with that of its planned end (R44, R45). -/
def State.endAtRest (s : State) (a : Axis) : State :=
  let x := s.ax a
  match x.mode, x.intent, x.current with
  | .stopping, some finding, _ => s.endMove a finding x.ramp.stepsRun
  | _, _, some m => s.endMove a (x.plannedFinding m).1 (x.plannedFinding m).2
  | _, _, none => s

/-! ## Pulses and re-plans (R24, R28, R29) -/

/-- Gives r a value and decides the pending step from it; with r = 0 the move has reached its end (R23, R28). -/
def State.replan (s : State) (a : Axis) (r : Nat) : State :=
  if r = 0 then (s.modAx a fun x => { x with ramp := { x.ramp with r := 0, step := none } }).endAtRest a
  else
    s.modAx a fun x =>
      { x with ramp := { x.ramp with r := r, step := some ((s.prof x.ramp.profile).decide x.ramp.k r) } }

/-- The Mark Unit at a pulse that makes steps run equal to n: a COUNTING width counts it, a window opens at its start and
closes at its start + length (R92, R95, R97). -/
def MarkItems.afterPulse (μ : MarkItems) (part : Option MarkPart) (n : Nat) : MarkItems :=
  { μ with
    widthCount := if μ.width = .counting then μ.widthCount + 1 else μ.widthCount
    window :=
      match part, μ.window with
      | some p, .waiting => if n = p.start then .opened else .waiting
      | some p, .opened => if n = p.start + p.length then .closed else .opened
      | _, w => w }

/-- What a pulse changes on its axis at its instant: STEP, the position, r, steps run, k, the class shown by AXSTATE, and
the Mark Unit, which is frozen in STOPPING (R24, R26, R106). -/
def AxisState.emit (x : AxisState) (st : PendingStep) : AxisState :=
  { x with
    mode := if x.mode = .stopping then .stopping else st.cls.mode
    position := x.position + x.ramp.dir.sign
    ramp :=
      { x.ramp with
        k := st.cls.nextK x.ramp.k x.ramp.r, r := x.ramp.r - 1, stepsRun := x.ramp.stepsRun + 1
        step := none, elapsed := 0 }
    mark :=
      if x.mode = .stopping then x.mark
      else x.mark.afterPulse (x.current.bind (·.task.mark?)) (x.ramp.stepsRun + 1)
    drive := x.drive.pulse x.config.readback }

/-- The pending step's pulse: its counts, then the end, the stop of a window that closed without a mark, or the decision of
the next step (R24, R95). -/
def State.pulse (s : State) (a : Axis) : State :=
  match (s.ax a).ramp.step with
  | none => s
  | some st =>
    let s := s.modAx a (·.emit st)
    let x := s.ax a
    if x.ramp.r = 0 then s.endAtRest a
    else if x.mode ≠ .stopping ∧ x.mark.window = .closed then
      (s.modAx a fun x => { x with mode := .stopping, intent := some (.missed .closed) }).replan a x.ramp.stoppingDistance
    else s.replan a x.ramp.r

/-- Whether the pending step's interval has passed (R24, R28). -/
def Ramp.overdue (ρ : Ramp) : Bool := ρ.step.any (·.interval ≤ ρ.elapsed)

/-- A re-plan while a step's interval runs: the new interval is measured from the same point, and if it has already passed
the pulse is emitted at once (R28). At a mark, a trailing edge of the same instant can come first (R97): a free value, settled
before the re-plan by `State.passMark` (log 25). -/
def State.replanNow (s : State) (a : Axis) (r : Nat) : State :=
  let s := s.replan a r
  if (s.ax a).ramp.overdue then s.pulse a else s

/-- A controlled stop: r becomes the stopping distance. With a stop intent the axis enters STOPPING (R29, R45). -/
def State.controlledStop (s : State) (a : Axis) (intent : Option Finding) : State :=
  let s :=
    match intent with
    | none => s
    | some finding => s.modAx a fun x => { x with mode := .stopping, intent := some finding }
  s.replanNow a (s.ax a).ramp.stoppingDistance

/-! ## Entry into HALTED (R54, R55) -/

/-- The halt cause after an entry into HALTED: DRIVE replaces any cause, the first other cause is kept (R55). -/
def HaltCause.enter (present new : HaltCause) : HaltCause :=
  if new = .drive ∨ present = .none then new else present

/-- An axis enters HALTED, and HALT is latched (R54). -/
def State.enterHalted (s : State) (a : Axis) (cause : HaltCause) : State :=
  (s.modAx a fun x => { x with mode := .halted, cause := x.cause.enter cause }).latch flagHALT

/-! ## Starts (R42) -/

/-- The Mark Unit's items at the start of a move with distance: a window, open at once when its start is 0, or an edge
search for a SEEK (R92, R102). -/
def Task.armed (t : Task) : MarkItems :=
  match t with
  | .seek _ _ _ => { MarkItems.empty with search := .armed }
  | .absolute _ _ (some part) | .relative _ _ (some part) =>
    { MarkItems.empty with window := if part.start = 0 then .opened else .waiting }
  | .absolute _ _ none | .relative _ _ none | .dwell _ => MarkItems.empty

/-- The start of a move with distance: the ramp state, DIR, the window or search, and the first pending step (R22, R42). -/
def AxisState.startRun (x : AxisState) (entry : Profile) (profile : ProfileNo) (task : Task) (displacement : Int) :
    AxisState :=
  { x with
    mode := .accel
    ramp :=
      { profile := profile, k := 0, r := displacement.natAbs, stepsRun := 0, dir := dirOf displacement
        step := some (entry.decide 0 displacement.natAbs), elapsed := 0 }
    mark := task.armed
    drive := x.drive.driveDir (dirLevel x.config.dirInverted (dirOf displacement)) }

/-- The start of a DWELL: the dwell timer is loaded, and k, r and steps run stand at 0 (R22, R31, R42). -/
def AxisState.startDwell (x : AxisState) (ms : Nat) : AxisState :=
  { x with
    mode := .dwelling
    dwell := ms * 1000
    ramp := { x.ramp with k := 0, r := 0, stepsRun := 0, step := none, elapsed := 0 } }

/-- The start of the current move (R42). A zero-distance move and a SEEK that finds its sensor active end at once. -/
def State.startMove (s : State) (a : Axis) : State :=
  let x := s.ax a
  match x.current with
  | none => s
  | some m =>
    match m.task with
    | .dwell ms => s.modAx a (·.startDwell ms)
    | .seek value p setZero =>
      if x.sens.qualified = x.config.activeLevel then
        (s.modAx a fun x => { x with position := if setZero then 0 else x.position }).endMove a (.done .atOnce) 0
      else s.modAx a (·.startRun (s.prof p) p m.task value)
    | .absolute _ p mark | .relative _ p mark =>
      let displacement := x.plannedEnd.getD x.position - x.position
      if displacement = 0 then
        s.endMove a (if mark.isSome then .missed .planned else .done .plain) 0
      else s.modAx a (·.startRun (s.prof p) p m.task displacement)

/-! ## Gates (chapter 4) -/

/-- The gate fires: the arrival set becomes empty, the timer stops, and every axis of the set starts its move (R43, R76).
An axis of the set is GATED (R73). -/
def State.fireGate (s : State) (g : GateTag) : State :=
  let set := (s.gate g).arrivals
  State.forAxes (fun a s => if inSet set a ∧ (s.ax a).mode = .gated then s.startMove a else s)
    (s.modGate g fun q => { q with arrivals := 0, timer := none })

/-- Whether a gate fires: its arrival set equals its member set, which is not empty (R76). -/
def Gate.complete (q : Gate) : Bool := q.arrivals == q.members && !(q.members == 0)

/-- Adds an axis to the arrival set. The timer starts when the set was empty and the timeout is nonzero (R74). -/
def Gate.arrive (q : Gate) (a : Axis) : Gate :=
  { q with
    arrivals := q.arrivals ||| axisBit a
    timer := if q.arrivals = 0 ∧ q.timeout ≠ 0 then some (q.timeout * 1000) else q.timer }

/-- An axis arrives at a gate: it enters GATED with steps run 0, joins the set, and the gate may fire (R41, R74; log 12). -/
def State.arrive (s : State) (a : Axis) (g : GateTag) : State :=
  let s := (s.modAx a fun x => { x with mode := .gated, ramp := { x.ramp with stepsRun := 0 } }).modGate g (·.arrive a)
  if (s.gate g).complete then s.fireGate g else s

/-- Removes an axis from the arrival set; the timer stops if the set becomes empty (R79). -/
def Gate.withdraw (q : Gate) (a : Axis) : Gate :=
  let left := q.arrivals &&& ~~~(axisBit a)
  { q with arrivals := left, timer := if left = 0 then none else q.timer }

/-- Withdraws an axis from the gate its current move waits at (R79). -/
def State.withdraw (s : State) (a : Axis) : State :=
  match (s.ax a).current.bind (·.gate) with
  | none => s
  | some g => s.modGate g (·.withdraw a)

/-- The current move of a GATED axis becomes its held move, keeping its slot and use counts (R17). -/
def AxisState.hold (x : AxisState) : AxisState := { x with held := x.current, current := none, plannedEnd := none }

/-! ## Takes (R39) -/

/-- The end that the limit check compares, formed without wrap-around (R2, R40). -/
def Task.plannedEnd (t : Task) (position : Int) : Option Int :=
  match t with
  | .absolute target _ _ => some target
  | .relative displacement _ _ => some (position + displacement)
  | .seek value _ _ => some (position + value)
  | .dwell _ => none

/-- The limit check at take: the detail it fails with, if it fails (R40). -/
def AxisState.limitCheck (x : AxisState) (t : Task) : Option LimitDetail :=
  match t.plannedEnd x.position with
  | none => none
  | some e => if e < x.limitMin then some .min else if x.limitMax < e then some .max else none

/-- A take or re-take: the limit check, then the gate or the start (R39). -/
def State.take (s : State) (a : Axis) (m : Move) : State :=
  let s := s.modAx a fun x => { x with current := some m, plannedEnd := m.task.plannedEnd x.position }
  match (s.ax a).limitCheck m.task with
  | some detail => s.endMove a (.limit detail) 0
  | none =>
    match m.gate with
    | some g => s.arrive a g
    | none => s.startMove a

/-- Takes the head of the queue, or becomes IDLE when the queue is empty (R16, R53). -/
def State.takeNext (s : State) (a : Axis) : State :=
  match (s.ax a).queue with
  | [] => s.modAx a fun x => { x with mode := .idle }
  | m :: rest => (s.modAx a fun x => { x with queue := rest }).take a m

/-! ## Grants (R50 to R53, R127 to R129) -/

/-- Follows an after-deposit path (R53, R54). -/
def State.followPath (s : State) (a : Axis) : Path → State
  | .cont => s.takeNext a
  | .halted cause => s.enterHalted a cause

/-- A place is granted to an axis: its report is deposited, and it follows its path or builds the DRIVEFAULT it owes
(R51, R52). -/
def State.grant (s : State) (a : Axis) : State :=
  match (s.ax a).offer with
  | none => s
  | some o =>
    let s := (s.deposit o.report).modAx a fun x => { x with offer := none }
    match (s.ax a).owed with
    | some detail => (s.modAx a fun x => { x with owed := none }).offerReport a (.driveFault detail) 0 0
    | none => s.followPath a o.path

/-- Grants up to n places, one candidate after another (R127, R128). -/
def State.grantPlaces : Nat → State → State
  | 0, s => s
  | n + 1, s =>
    match s.nextCandidate with
    | none => s
    | some a => State.grantPlaces n (s.grant a)

/-- Grants the free places for as long as there are places and candidates; offers made on the way join the candidates
before a further place is granted (R127). R127 says this of the granted axis's own new offer. Where its CONTINUE take completes
a gate, and another member's move ends at its start, that axis's offer joins the same batch too: DESIGN CHOICE, the manual
leaves it open (log 26). Each grant fills one place, so the free places bound the grants. -/
def State.settle (s : State) : State := State.grantPlaces (Config.reportPlaces - s.reports.reports.length) s

/-! ## Stops and drive faults (chapters 6 and 8) -/

/-- The halt cause of a stop (R140). -/
def StopSource.cause : StopSource → HaltCause
  | .line => .stopLine
  | .command => .stopCmd

/-- A stop reaches an axis and acts according to its state (R140, R141, R142). -/
def State.stopAxis (source : StopSource) (a : Axis) (s : State) : State :=
  let x := s.ax a
  match x.mode with
  | .accel | .cruise | .decel =>
    match s.style with
    | .controlled => s.controlledStop a (some (.stopped source))
    | .immediate => s.endMove a (.stopped source) x.ramp.stepsRun
  | .dwelling => s.endMove a (.stopped source) 0
  | .gated => ((s.withdraw a).modAx a (·.hold)).enterHalted a source.cause
  | .idle => s.enterHalted a source.cause
  | .reporting =>
    s.modAx a fun x =>
      { x with offer := x.offer.map fun o => { o with path := if o.path = .cont then .halted source.cause else o.path } }
  | .stopping | .halted | .disabled => s

/-- A stop reaches every axis (R137, R138). -/
def State.stopAll (s : State) (source : StopSource) : State := State.forAxes (State.stopAxis source) s

/-- A drive fault is taken by its axis, in every state but DISABLED (R115 to R118). -/
def State.driveFault (s : State) (a : Axis) (detail : DriveDetail) : State :=
  let x := s.ax a
  let t := s.modAx a fun x => { x with cause := .drive }
  match x.mode with
  | .disabled => s
  | .accel | .cruise | .decel | .stopping => t.endMove a (.driveFault detail) x.ramp.stepsRun
  | .dwelling => t.endMove a (.driveFault detail) 0
  | .gated =>
    ((t.withdraw a).modAx a (·.hold)).offerReport a (.driveFault detail) ((x.current.map (·.tag)).getD 0) 0
  | .idle => t.offerReport a (.driveFault detail) 0 0
  | .halted => t.offerReport a (.driveFault detail) ((x.held.map (·.tag)).getD 0) 0
  | .reporting => t.modAx a fun x => { x with owed := some (x.owed.getD detail) }

/-- The qualified /STOP and /FLT levels of an enabled axis are examined, at its enable and at a soft reset: each, if low,
counts as an assertion taken at that instant (R63, R67). The stop comes first (log 9). -/
def State.examine (a : Axis) (s : State) : State :=
  let s := if s.stop.qualified = .low ∧ (s.ax a).mode = .idle then s.enterHalted a .stopLine else s
  if (s.ax a).drive.flt.qualified = .low then s.driveFault a .driverInput else s

/-! ## Edges (chapter 5) -/

/-- The outcome of the re-plan at a mark taken now, and the remaining count it leaves: the distance to the new end, clamped to
the soft limits, or the stopping distance where that is longer (R99, R100). -/
def AxisState.registration (x : AxisState) (stopDistance : Nat) : Registration × Nat :=
  let target := x.position + x.ramp.dir.sign * stopDistance
  let clampedEnd := if x.limitMax < target then x.limitMax else if target < x.limitMin then x.limitMin else target
  let count := (clampedEnd - x.position).natAbs
  let stop := x.ramp.stoppingDistance
  if stop ≤ count then (if clampedEnd = target then .exact else .clamped, count) else (.short (stop - count), stop)

/-- Whether the re-plan at a mark acts at the mark's own instant: it ends the move, or its new interval has already passed and
the pulse is emitted at once (R28, R101). -/
def State.replansAtOnce (s : State) (a : Axis) (stopDistance : Nat) : Bool :=
  let x := s.ax a
  let r := (x.registration stopDistance).2
  r == 0 || ((s.prof x.ramp.profile).decide x.ramp.k r).interval ≤ x.ramp.elapsed

/-- The end of a registered move is re-planned from its mark (R99, R100). Whether a trailing edge of this instant comes before
the end or the pulse that this makes at once is settled before, by `State.passMark`. -/
def State.register (s : State) (a : Axis) (stopDistance : Nat) : State :=
  let plan := (s.ax a).registration stopDistance
  (s.modAx a fun x => { x with mark := { x.mark with registration := plan.1 } }).replanNow a plan.2

/-- A trailing edge ends a COUNTING width of a running mark move (R89, R97). -/
def State.trailingEdge (s : State) (a : Axis) : State :=
  let x := s.ax a
  if x.mode.running ∧ (x.current.bind (·.task.mark?)).isSome ∧ x.mark.width = .counting then
    s.modAx a fun x => { x with mark := { x.mark with width := .ended } }
  else s

/-- The sensor leaves the mark at the mark's own instant, and the trailing edge is taken before the end (R101), or the pulse
(R97), that the mark makes at once. Two edges can share an instant only with a filter time of 0 (R88). Whether they do, and
which comes first, the manual leaves open: a free value (log 25). -/
def State.passMark (s : State) (a : Axis) : State :=
  if (s.ax a).config.filter = 0 then
    let t := { s with choices := s.choices + 1 }
    if Config.markPasses s.choices then
      (t.modAx a fun x =>
        let inactive := otherLevel x.config.activeLevel
        { x with sens := { pin := inactive, qualified := inactive, count := none } }).trailingEdge a
    else t
  else s

/-- A leading edge acts on a running move: as the mark in an OPEN window, or as the edge of an ARMED search
(R89, R93, R103). A mark whose re-plan leaves nothing to run ends the move at this instant (R101), and one whose new interval
has passed emits its pulse (R28). -/
def State.leadingEdge (s : State) (a : Axis) : State :=
  let x := s.ax a
  if x.mode.running then
    match x.current.map Move.task with
    | some (.seek _ _ setZero) =>
      if x.mark.search = .armed then
        (s.modAx a fun x =>
          { x with
            position := if setZero then 0 else x.position
            mark := { x.mark with search := .found, edgeSteps := x.ramp.stepsRun } }).controlledStop a none
      else s
    | some (.absolute _ _ (some part)) | some (.relative _ _ (some part)) =>
      if x.mark.window = .opened then
        let s := s.modAx a fun x =>
          { x with
            mark := { x.mark with window := .found, position := some x.position, width := .counting, widthCount := 0 } }
        match part.stopDistance with
        | none => s
        | some d => (if s.replansAtOnce a d then s.passMark a else s).register a d
      else s
    | some (.absolute _ _ none) | some (.relative _ _ none) | some (.dwell _) | none => s
  else s

/-- The SENS filter accepts the pin's level: the qualified level takes it, and the edge it makes acts (R88, R89). -/
def State.acceptSens (s : State) (a : Axis) : State :=
  let s := s.modAx a fun x => { x with sens := x.sens.accept }
  if (s.ax a).sens.qualified = (s.ax a).config.activeLevel then s.leadingEdge a else s.trailingEdge a

/-! ## Resets (R165, R166) -/

/-- An axis after a hardware reset. The pins are inputs and keep the levels they show (R66, R108, R121). -/
def AxisState.hardReset (x : AxisState) : AxisState :=
  { AxisState.reset with
    sens := { AxisState.reset.sens with pin := x.sens.pin }
    drive := { AxisState.reset.drive with flt := { AxisState.reset.drive.flt with pin := x.drive.flt.pin } } }

/-- The part while /RESET is held low: every block at its hardware reset values (R166). The pins keep the levels they show,
and the model's own fields are kept (log 13, log 20). -/
def State.hardReset (s : State) : State :=
  { State.reset with
    axes := s.mapAxes AxisState.hardReset
    stop := { State.reset.stop with pin := s.stop.pin }
    inReset := true
    choices := s.choices
    pending := s.pending }

/-- An axis after a soft reset, before the examination of its inputs: its moves, reports and run state are cleared and its
setup kept. SENS is compared with the inactive level from this instant; no move watches it, so an acceptance at this instant
changes the qualified level alone (R67, R108, R121). -/
def AxisState.softReset (x : AxisState) : AxisState :=
  { AxisState.reset with
    mode := if x.mode = .disabled then .disabled else .idle
    limitMin := x.limitMin
    limitMax := x.limitMax
    config := x.config
    sens := { x.sens with qualified := otherLevel x.config.activeLevel }.compare x.config.filter
    drive := { AxisState.reset.drive with flt := x.drive.flt } }

/-- The part after a soft reset, before the examination of its inputs (R19, R36, R67, R86, R108, R121, R136, R151, R165). -/
def State.softReset (s : State) : State :=
  { s with
    axes := s.mapAxes AxisState.softReset
    poolFree := Config.poolSlots
    profiles := s.mapProfs fun p => { p with useCount := 0 }
    gates := s.mapGates fun g => { g with arrivals := 0, timer := none, useCount := 0 }
    reports := State.reset.reports
    iflag := 0
    cres := .ok }

/-- Every filter compares its pin with its qualified level from the rising edge of /RESET (R166). -/
def AxisState.restartFilters (x : AxisState) : AxisState :=
  { x with sens := x.sens.restart, drive := { x.drive with flt := x.drive.flt.restart } }

/-! ## Time (00 Conventions, "Time"; log 2) -/

/-- 1 µs passes on an axis: the running interval, dwell timer, filters, high time and sample. -/
def AxisState.tick (x : AxisState) : AxisState :=
  { x with
    ramp := { x.ramp with elapsed := if x.ramp.step.isSome then x.ramp.elapsed + 1 else x.ramp.elapsed }
    dwell := x.dwell - 1
    sens := x.sens.tick
    drive :=
      { x.drive with
        stepHigh := x.drive.stepHigh.map (· + 1)
        sample := x.drive.sample.map fun q => { q with elapsed := q.elapsed + 1 }
        flt := x.drive.flt.tick } }

/-- 1 µs passes. While /RESET is held low no period runs (R166). -/
def State.tick (s : State) : State :=
  s.operating fun s =>
    { s with
      axes := s.mapAxes AxisState.tick
      gates := s.mapGates fun g => { g with timer := g.timer.map (· - 1) }
      stop := s.stop.tick }

/-- The command of the event at the end of a filter time, where it has passed. -/
def filterEvent (f : FilteredInput) (time : Nat) (level : Level) (there other : Instr) : List Instr :=
  if f.due time then [if f.pin = level then there else other] else []

/-- The events of an axis that are due (R24, R31, R88, R110, R113, R114). The sample reads what its two pins show. -/
def AxisState.dueEvents (x : AxisState) (a : Axis) : List Instr :=
  (if x.ramp.overdue then [.stepPulse a] else [])
  ++ (if x.drive.stepHigh.any (Config.stepHighTime ≤ ·) then [.stepHighTimeEnd a] else [])
  ++ (if x.drive.sample.any (Config.sampleTime ≤ ·.elapsed) then [.readbackSample a x.drive.stepPin x.drive.dirPin] else [])
  ++ (if x.mode = .dwelling ∧ x.dwell = 0 then [.dwellExpiry a] else [])
  ++ filterEvent x.sens x.config.filter x.config.activeLevel (.leadingEdge a) (.trailingEdge a)
  ++ filterEvent x.drive.flt Config.lineFilter .low (.fltAssertion a) (.fltDeassertion a)

/-- The events of the part that are due at this instant; none while /RESET is held low (R77, R137, R166). -/
def State.dueEvents (s : State) : List Instr :=
  if s.inReset then []
  else
    (s.ax .A).dueEvents .A ++ (s.ax .B).dueEvents .B ++ (s.ax .C).dueEvents .C ++ (s.ax .D).dueEvents .D
    ++ ((List.finRange 7).filter fun g => (s.gate g).timer = some 0).map Instr.gateTimerExpiry
    ++ filterEvent s.stop Config.lineFilter .low .stopAssertion .stopDeassertion

/-- The due event that is taken next, with the state it meets. Several at one instant are taken in an order that nothing
fixes (log 3). -/
def State.nextDue (s : State) : Option (Instr × State) :=
  match s.dueEvents with
  | [] => none
  | [c] => some (c, s)
  | c :: rest =>
    some ((c :: rest).getD (Config.dueChoice s.choices % (rest.length + 1)) c, { s with choices := s.choices + 1 })

end Sys2Proof.Machine
end

