-- ==== Sys2Proof/Machine/AxisCommands.lean ====
section
/-! DEFINITION. The commands written to CMD that act on the axis in AXSEL (Table 9-2): POST, ABORT, FLUSH, RESUME, SETPOS,
LIMITS, AXCONFIG and AXQUERY. -/

namespace Sys2Proof.Machine

/-! ## POST -/

/-- Checks 3 to 6 of Table 1-2, made on a well-formed record: the first that fails (R7, R9). -/
def State.postRefusal (s : State) (m : Move) : Option Result :=
  let gateCheck : Option Result :=
    match m.gate with
    | none => none
    | some g =>
      if (s.gate g).members = 0 then some .gateUnset
      else if inSet (s.gate g).members s.axsel then none
      else some .gateMember
  match gateCheck with
  | some r => some r
  | none =>
    if (s.ax s.axsel).config.quota ≤ (s.ax s.axsel).queue.length then some .quotaFull
    else if s.poolFree = 0 then some .poolFull
    else none

/-- The acceptance of a move: a slot, the use counts, the tail of the queue, and the take of an IDLE axis (R10). -/
def State.acceptMove (s : State) (m : Move) : State :=
  let a := s.axsel
  let t := ((s.allocate m).modAx a fun x => { x with queue := x.queue ++ [m] }).result .ok
  if (s.ax a).mode = .idle then (t.takeNext a).settle else t

/-- POST (R6, R7, R10, R11). -/
def State.applyPost (s : State) : State :=
  if (s.ax s.axsel).mode = .disabled then s.result .axisDisabled
  else
    match moveOfBlock s.block with
    | none => s.result .badParam
    | some m =>
      match s.postRefusal m with
      | some r => s.result r
      | none => s.acceptMove m

/-- The meaning of POST (R6). -/
def execPost (s : State) : Host.Outcome State Fault Refusal := .next (s.operating State.applyPost)

/-! ## ABORT -/

/-- ABORT (R80, R145, R146). -/
def State.applyAbort (s : State) : State :=
  let a := s.axsel
  match (s.ax a).mode with
  | .accel | .cruise | .decel => ((s.result .ok).controlledStop a (some (.aborted .running))).settle
  | .gated => (((s.result .ok).withdraw a).endMove a (.aborted .gated) 0).settle
  | .dwelling => ((s.result .ok).endMove a (.aborted .dwelling) 0).settle
  | .stopping => s.result .axisBusy
  | .idle | .reporting | .halted | .disabled => s.result .noMove

/-- The meaning of ABORT (R145). -/
def execAbort (s : State) : Host.Outcome State Fault Refusal := .next (s.operating State.applyAbort)

/-! ## FLUSH -/

/-- The moves FLUSH discards: the queue and the held move (R148). -/
def AxisState.waitingMoves (x : AxisState) : List Move := x.queue ++ x.held.toList

/-- FLUSH (R18, R148). -/
def State.applyFlush (s : State) : State :=
  let a := s.axsel
  let x := s.ax a
  if x.mode = .disabled then s.result .axisDisabled
  else
    let t := (x.waitingMoves.foldl State.release s).modAx a fun x => { x with queue := [], held := none }
    { t with block := t.block.set 0 (natByte x.waitingMoves.length 0) }.result .ok

/-- The meaning of FLUSH (R148). -/
def execFlush (s : State) : Host.Outcome State Fault Refusal := .next (s.operating State.applyFlush)

/-! ## RESUME -/

/-- RESUME (R57, R58, R75). -/
def State.applyResume (s : State) : State :=
  let a := s.axsel
  let x := s.ax a
  if x.mode ≠ .halted then s.result .notHalted
  else if s.stop.qualified = .low then s.result .stopActive
  else if x.cause = .drive ∧ x.drive.flt.qualified = .low then s.result .driveActive
  else
    let t := (s.modAx a fun x => { x with cause := .none, held := none }).result .ok
    match x.held with
    | some m => (t.take a m).settle
    | none => (t.takeNext a).settle

/-- The meaning of RESUME (R58). -/
def execResume (s : State) : Host.Outcome State Fault Refusal := .next (s.operating State.applyResume)

/-! ## SETPOS and LIMITS -/

/-- SETPOS (R60). -/
def State.applySetpos (s : State) : State :=
  let x := s.ax s.axsel
  let p := signed24 s.block[0] s.block[1] s.block[2]
  if x.mode.busy then s.result .axisBusy
  else if p < x.limitMin ∨ x.limitMax < p then s.result .badParam
  else (s.modAx s.axsel fun x => { x with position := p }).result .ok

/-- The meaning of SETPOS (R60). -/
def execSetpos (s : State) : Host.Outcome State Fault Refusal := .next (s.operating State.applySetpos)

/-- LIMITS (R61). -/
def State.applyLimits (s : State) : State :=
  let x := s.ax s.axsel
  let lo := signed24 s.block[4] s.block[5] s.block[6]
  let hi := signed24 s.block[7] s.block[8] s.block[9]
  if x.mode.busy then s.result .axisBusy
  else if hi < lo then s.result .badParam
  else (s.modAx s.axsel fun x => { x with limitMin := lo, limitMax := hi }).result .ok

/-- The meaning of LIMITS (R61). -/
def execLimits (s : State) : Host.Outcome State Fault Refusal := .next (s.operating State.applyLimits)

/-! ## AXCONFIG and AXQUERY -/

/-- The configuration takes its new values: the enable field moves the axis to or from DISABLED, a SENS count that is complete
under the new filter time is accepted without effect on a move, and a readback sample is discarded when the axis is disabled
or the check is off (R62, R63, R90, R113). -/
def AxisState.configure (x : AxisState) (c : AxisConfig) : AxisState :=
  { x with
    config := c
    mode := if c.enable then (if x.mode = .disabled then .idle else x.mode) else .disabled
    cause := if c.enable then x.cause else .none
    sens := if x.sens.due c.filter then x.sens.accept else x.sens
    drive := { x.drive with sample := if c.enable ∧ c.readback then x.drive.sample else none } }

/-- AXCONFIG (R62, R63, R90). -/
def State.applyAxconfig (s : State) : State :=
  let a := s.axsel
  let x := s.ax a
  let c := configOfBlock s.block
  if x.mode.busy ∨ (x.mode = .halted ∧ (x.queue ≠ [] ∨ x.held.isSome)) then s.result .axisBusy
  else if c.quota = 0 ∨ Config.maxQuota < c.quota then s.result .badParam
  else
    let t := (s.modAx a (·.configure c)).result .ok
    if x.mode = .disabled ∧ c.enable then (t.examine a).settle else t

/-- The meaning of AXCONFIG (R62). -/
def execAxconfig (s : State) : Host.Outcome State Fault Refusal := .next (s.operating State.applyAxconfig)

/-- AXQUERY (R64). -/
def State.applyAxquery (s : State) : State := { s with block := axisAnswer (s.ax s.axsel) }.result .ok

/-- The meaning of AXQUERY (R64). -/
def execAxquery (s : State) : Host.Outcome State Fault Refusal := .next (s.operating State.applyAxquery)

end Sys2Proof.Machine
end

