-- ==== Sys2Proof/Machine/PinEvents.lean ====
section
/-! DEFINITION. The filtered inputs: changes of the SENS, /FLT and /STOP pins, and the acceptances that end a filter time.
An acceptance given as a command acts where a count for its level is in progress (log 1). While /RESET is held low a pin may
still change, and no filter runs (R166; log 13). -/

namespace Sys2Proof.Machine

/-! ## SENS (chapter 5) -/

/-- The acceptance of the SENS level that the pin shows, with all that its edge sets off (R88, R89). -/
def State.takeSens (s : State) (a : Axis) : State := (s.acceptSens a).settle

/-- A change of the SENS pin starts or discards a count; with a filter time of 0 the level is accepted at this instant
(log 8). A level shown for the whole filter time is accepted before the pin leaves it (R88). -/
def State.sensPin (s : State) (a : Axis) (level : Level) : State :=
  if level = (s.ax a).sens.pin then s
  else
    let s := if (s.ax a).sens.leaves level (s.ax a).config.filter then s.takeSens a else s
    let s := s.modAx a fun x => { x with sens := x.sens.setPin level }
    if (s.ax a).sens.count.isSome ∧ (s.ax a).config.filter = 0 then s.takeSens a else s

/-- The meaning of SENS_PIN_CHANGE (R88). -/
def execSensPinChange (axis : Axis) (level : Level) (s : State) : Host.Outcome State Fault Refusal :=
  .next
    (if s.inReset then s.modAx axis fun x => { x with sens := { x.sens with pin := level } }
     else s.sensPin axis level)

/-- The meaning of LEADING_EDGE: the filter accepts the sensor active level (R89). -/
def execLeadingEdge (axis : Axis) (s : State) : Host.Outcome State Fault Refusal :=
  .next (s.operating fun s =>
    if (s.ax axis).sens.counting (s.ax axis).config.activeLevel then s.takeSens axis else s)

/-- The meaning of TRAILING_EDGE: the filter accepts the sensor inactive level (R89). -/
def execTrailingEdge (axis : Axis) (s : State) : Host.Outcome State Fault Refusal :=
  .next (s.operating fun s =>
    if (s.ax axis).sens.counting (otherLevel (s.ax axis).config.activeLevel) then s.takeSens axis else s)

/-! ## /FLT (chapter 6) -/

/-- The /FLT filter accepts the pin's level (R114). -/
def State.acceptFlt (s : State) (a : Axis) : State :=
  s.modAx a fun x => { x with drive := { x.drive with flt := x.drive.flt.accept } }

/-- The acceptance of the /FLT level that the pin shows: of low, a drive fault with all that it sets off; of high, nothing else
(R114). -/
def State.takeFlt (s : State) (a : Axis) : State :=
  if (s.ax a).drive.flt.pin = .low then ((s.acceptFlt a).driveFault a .driverInput).settle else s.acceptFlt a

/-- A change of the /FLT pin starts or discards a count. A level shown for the whole filter time is accepted before the pin
leaves it (R114). -/
def State.fltPin (s : State) (a : Axis) (level : Level) : State :=
  let s := if (s.ax a).drive.flt.leaves level Config.lineFilter then s.takeFlt a else s
  s.modAx a fun x => { x with drive := { x.drive with flt := x.drive.flt.setPin level } }

/-- The meaning of FLT_PIN_CHANGE (R114). -/
def execFltPinChange (axis : Axis) (level : Level) (s : State) : Host.Outcome State Fault Refusal :=
  .next
    (if s.inReset then
       s.modAx axis fun x => { x with drive := { x.drive with flt := { x.drive.flt with pin := level } } }
     else s.fltPin axis level)

/-- The meaning of FLT_ASSERTION: the low level is accepted, a drive fault in every state but DISABLED (R114). -/
def execFltAssertion (axis : Axis) (s : State) : Host.Outcome State Fault Refusal :=
  .next (s.operating fun s =>
    if (s.ax axis).drive.flt.counting .low then s.takeFlt axis else s)

/-- The meaning of FLT_DEASSERTION: the high level is accepted, and nothing else changes (R114). -/
def execFltDeassertion (axis : Axis) (s : State) : Host.Outcome State Fault Refusal :=
  .next (s.operating fun s => if (s.ax axis).drive.flt.counting .high then s.takeFlt axis else s)

/-! ## /STOP (chapter 8) -/

/-- The acceptance of the /STOP level that the pin shows: of low, STOPIN is latched and a stop reaches every enabled axis; of
high, nothing else (R137, R140). -/
def State.takeStop (s : State) : State :=
  let t := { s with stop := s.stop.accept }
  if s.stop.pin = .low then ((t.latch flagSTOPIN).stopAll .line).settle else t

/-- A change of the /STOP pin starts or discards a count. A level shown for the whole filter time is accepted before the pin
leaves it (R137). -/
def State.stopPin (s : State) (level : Level) : State :=
  let s := if s.stop.leaves level Config.lineFilter then s.takeStop else s
  { s with stop := s.stop.setPin level }

/-- The meaning of STOP_PIN_CHANGE (R137). -/
def execStopPinChange (level : Level) (s : State) : Host.Outcome State Fault Refusal :=
  .next (if s.inReset then { s with stop := { s.stop with pin := level } } else s.stopPin level)

/-- The meaning of STOP_ASSERTION: the low level is accepted, STOPIN is latched and a stop reaches every enabled axis
(R137, R140). -/
def execStopAssertion (s : State) : Host.Outcome State Fault Refusal :=
  .next (s.operating fun s =>
    if s.stop.counting .low then s.takeStop else s)

/-- The meaning of STOP_DEASSERTION: the high level is accepted, and nothing else changes (R137). -/
def execStopDeassertion (s : State) : Host.Outcome State Fault Refusal :=
  .next (s.operating fun s => if s.stop.counting .high then s.takeStop else s)

end Sys2Proof.Machine
end

