-- ==== Sys2Proof/Machine/Views.lean ====
section
/-! DEFINITION. What a read of each location of the register window returns (R152, R153, R162).
A read of a location other than AXPOS0 and RDATA changes nothing and is no command; this file says what it returns. What the
STEP and DIR pins of the selected axis show at the read is an input of the read (R109, R113). -/

namespace Sys2Proof.Machine

/-- The position snapshot that a read of AXPOS0 takes (R161). -/
def State.latchedPosition (s : State) : Word24 := positionWord (s.ax s.axsel).position

/-- The byte that a read of RDATA returns: byte p of the head, or 00h with the list empty (R131). -/
def State.reportByte (s : State) : Byte :=
  match s.reports.reports with
  | [] => 0
  | head :: _ => head.byte s.reports.pointer

/-- AXIN of an axis: the qualified levels, and the levels its STEP and DIR pins show at the read (R109, Table 9-6). -/
def State.axinByte (s : State) (x : AxisState) (pins : Readback) : Byte :=
  levelBit x.sens.qualified 0 ||| bitAt (x.sens.qualified == x.config.activeLevel) 1
  ||| levelBit x.drive.flt.qualified 2 ||| levelBit s.stop.qualified 3
  ||| levelBit pins.step 4 ||| levelBit pins.dir 5

/-- AXCAUSE of an axis: the halt cause, and bit 7 when it has a held move (Table 9-6). -/
def AxisState.causeByte (x : AxisState) : Byte := x.cause.code ||| bitAt x.held.isSome 7

/-- MODE: the stop style in bit 0 (R153). -/
def StopStyle.byte : StopStyle → Byte
  | .controlled => 0
  | .immediate => 1

/-- What a read of an offset returns, the STEP and DIR pins of the selected axis showing the given levels (Table 9-1); every
location reads 00h while /RESET is held low (R166). -/
def State.readLocation (s : State) (pins : Readback) (offset : Offset) : Byte :=
  if s.inReset then 0
  else
    let x := s.ax s.axsel
    match offset.toNat with
    | 0x00 => 0x9C
    | 0x01 => s.cres.code
    | 0x02 => natByte s.reports.reports.length 0
    | 0x03 => natByte s.poolFree 0
    | 0x04 => s.iflag.setWidth 8
    | 0x05 => s.ienable.setWidth 8
    | 0x06 => axisByte s.axsel
    | 0x07 => x.mode.code
    | 0x08 => natByte x.queue.length 0
    | 0x09 => wordByte s.latchedPosition 0
    | 0x0A => wordByte s.snapshot 1
    | 0x0B => wordByte s.snapshot 2
    | 0x0C => s.axinByte x pins
    | 0x0D => s.reportByte
    | 0x0E => x.causeByte
    | 0x0F => s.style.byte
    | n => s.block.toList.getD (n - 0x10) 0

end Sys2Proof.Machine
end

