-- ==== Sys2Proof/Machine/PortAccess.lean ====
section
/-! DEFINITION. The accesses to the register window that change state and are not commands: the reads of AXPOS0 and RDATA,
and the writes to locations other than CMD (R152). -/

namespace Sys2Proof.Machine

/-- The meaning of a read of AXPOS0: the snapshot is latched and its low byte returned (R161). While /RESET is held low the
read returns 00h (R166). -/
def execAxpos0Read (s : State) : Host.Outcome State Fault Refusal :=
  .next
    (if s.inReset then { s with dataOut := 0 }
     else { s with snapshot := s.latchedPosition, dataOut := wordByte s.latchedPosition 0 })

/-- The read pointer after a read of RDATA: it stays with the list empty, and returns to 0 after the byte at 10
(R131). -/
def ReportQueue.nextPointer (q : ReportQueue) : Nat :=
  if q.reports.isEmpty then q.pointer else if q.pointer < 10 then q.pointer + 1 else 0

/-- The meaning of a read of RDATA: byte p of the head is returned and p advances (R131). -/
def execRdataRead (s : State) : Host.Outcome State Fault Refusal :=
  .next
    (if s.inReset then { s with dataOut := 0 }
     else { s with dataOut := s.reportByte, reports := { s.reports with pointer := s.reports.nextPointer } })

/-- The meaning of a write to IFLAG (R163). -/
def execIflagWrite (value : Byte) (s : State) : Host.Outcome State Fault Refusal :=
  .next (s.operating fun s => s.clearFlags value)

/-- A write to a location other than CMD and IFLAG: IENABLE, AXSEL, MODE and PB0 to PB15 store it, every other location is
read-only (R152, R153, R157, R160, R164). -/
def State.writeLocation (s : State) (offset : Offset) (value : Byte) : State :=
  if offset = 0x05 then { s with ienable := value.setWidth 3 }
  else if offset = 0x06 then { s with axsel := (axisOfByte value).getD s.axsel }
  else if offset = 0x0F then { s with style := if value.getLsbD 0 then .immediate else .controlled }
  else if h : 0x10 ≤ offset.toNat then { s with block := s.block.set (offset.toNat - 0x10) value (by omega) }
  else s

/-- The meaning of WINDOW_WRITE (R152). A term that names CMD or IFLAG spells no WINDOW_WRITE and is refused (log 17). -/
def execWindowWrite (offset : Offset) (value : Byte) (s : State) : Host.Outcome State Fault Refusal :=
  if offset = offsetCMD ∨ offset = offsetIFLAG then .refused .illFormed
  else .next (s.operating fun s => s.writeLocation offset value)

end Sys2Proof.Machine
end

