-- ==== Sys2Proof/Machine/Resets.lean ====
section
/-! DEFINITION. The /RESET pin (R166). SOFTRESET is a command and stands in SharedCommands. -/

namespace Sys2Proof.Machine

/-- The meaning of HARDWARE_RESET: /RESET goes low and holds the part at its reset values (R166). -/
def execHardwareReset (s : State) : Host.Outcome State Fault Refusal := .next s.hardReset

/-- /RESET returns high: operation starts, and every filter compares its pin from this instant (R166). -/
def State.releaseReset (s : State) : State :=
  { s with axes := s.mapAxes AxisState.restartFilters, stop := s.stop.restart, inReset := false }

/-- The meaning of RESET_RELEASE; with /RESET already high there is nothing to release (R166). -/
def execResetRelease (s : State) : Host.Outcome State Fault Refusal :=
  .next (if s.inReset then s.releaseReset else s)

end Sys2Proof.Machine
end

