-- ==== Sys2Proof/Machine/SharedCommands.lean ====
section
/-! DEFINITION. The commands written to CMD that act on shared blocks (Table 9-2): PROFILE, PROFQUERY, GATESET, GATECLEAR,
GATEQUERY, POP, HALTALL and SOFTRESET, and a write of an unknown code. -/

namespace Sys2Proof.Machine

/-! ## Profiles -/

/-- Whether S, C and L are inside the ranges of a profile record (R20, R34 check 2). -/
def profileLegal (start cruise length : Nat) : Bool :=
  Config.shortestInterval ≤ cruise && cruise ≤ start && start ≤ Config.longestInterval && length ≤ Config.longestRamp

/-- PROFILE (R34). -/
def State.applyProfile (s : State) : State :=
  let start := unsigned16 s.block[1] s.block[2]
  let cruise := unsigned16 s.block[3] s.block[4]
  let length := unsigned16 s.block[5] s.block[6]
  match profileOfByte s.block[0] with
  | none => s.result .badParam
  | some p =>
    if !profileLegal start cruise length then s.result .badParam
    else if (s.prof p).useCount ≠ 0 then s.result .profileInUse
    else (s.modProf p fun q => { q with start := start, cruise := cruise, length := length }).result .ok

/-- The meaning of PROFILE (R34). -/
def execProfile (s : State) : Host.Outcome State Fault Refusal := .next (s.operating State.applyProfile)

/-- PROFQUERY (R33). -/
def State.applyProfquery (s : State) : State :=
  match profileOfByte s.block[0] with
  | none => s.result .badParam
  | some p => { s with block := profileAnswer s.block[0] (s.prof p) }.result .ok

/-- The meaning of PROFQUERY (R33). -/
def execProfquery (s : State) : Host.Outcome State Fault Refusal := .next (s.operating State.applyProfquery)

/-! ## Gates -/

/-- GATESET (R70). -/
def State.applyGateset (s : State) : State :=
  match gateOfTag s.block[0] with
  | none => s.result .badParam
  | some g =>
    if s.block[1] = 0 ∨ 0x10 ≤ s.block[1] then s.result .badParam
    else if (s.gate g).useCount ≠ 0 then s.result .gateInUse
    else
      (s.modGate g fun q =>
        { q with members := s.block[1].setWidth 4, timeout := unsigned16 s.block[2] s.block[3] }).result .ok

/-- The meaning of GATESET (R70). -/
def execGateset (s : State) : Host.Outcome State Fault Refusal := .next (s.operating State.applyGateset)

/-- GATECLEAR (R71). -/
def State.applyGateclear (s : State) : State :=
  match gateOfTag s.block[0] with
  | none => s.result .badParam
  | some g =>
    if (s.gate g).useCount ≠ 0 then s.result .gateInUse
    else (s.modGate g fun q => { q with members := 0, timeout := 0 }).result .ok

/-- The meaning of GATECLEAR (R71). -/
def execGateclear (s : State) : Host.Outcome State Fault Refusal := .next (s.operating State.applyGateclear)

/-- GATEQUERY (R72). -/
def State.applyGatequery (s : State) : State :=
  match gateOfTag s.block[0] with
  | none => s.result .badParam
  | some g => { s with block := gateAnswer s.block[0] (s.gate g) }.result .ok

/-- The meaning of GATEQUERY (R72). -/
def execGatequery (s : State) : Host.Outcome State Fault Refusal := .next (s.operating State.applyGatequery)

/-! ## Reports -/

/-- POP (R129, R133, R134). -/
def State.applyPop (s : State) : State :=
  match s.reports.reports with
  | [] => s.result .queueEmpty
  | _ :: rest => ({ s with reports := { s.reports with reports := rest, pointer := 0 } }.result .ok).settle

/-- The meaning of POP (R133). -/
def execPop (s : State) : Host.Outcome State Fault Refusal := .next (s.operating State.applyPop)

/-! ## Stops and resets -/

/-- HALTALL (R138, R140). -/
def State.applyHaltall (s : State) : State := ((s.result .ok).stopAll .command).settle

/-- The meaning of HALTALL (R138). -/
def execHaltall (s : State) : Host.Outcome State Fault Refusal := .next (s.operating State.applyHaltall)

/-- SOFTRESET: every block's soft reset values, then the examination of /STOP and /FLT (R67, R136, R165). -/
def State.applySoftreset (s : State) : State :=
  let t := s.softReset
  let t := if t.stop.qualified = .low then t.latch flagSTOPIN else t
  (State.forAxes State.examine t).settle

/-- The meaning of SOFTRESET (R165). -/
def execSoftreset (s : State) : Host.Outcome State Fault Refusal := .next (s.operating State.applySoftreset)

/-! ## Unknown codes -/

/-- The meaning of BAD_COMMAND: a write of an unknown code to CMD sets CRES and changes nothing else (R154). A term with a
known code spells no BAD_COMMAND and is refused (log 17). -/
def execBadCommand (code : Byte) (s : State) : Host.Outcome State Fault Refusal :=
  if commandCodes.contains code then .refused .illFormed
  else .next (s.operating fun s => s.result .badCommand)

end Sys2Proof.Machine
end

