-- ==== Sys2Proof/Machine/TimedEvents.lean ====
section
/-! DEFINITION. The events that the part's own timing brings about. Given as a command, each says that its period has ended;
it acts where the passing of time alone would bring it about, and has no effect elsewhere (log 1). -/

namespace Sys2Proof.Machine

/-- The meaning of STEP_PULSE: the pending step's pulse is emitted (R24, R38). -/
def execStepPulse (axis : Axis) (s : State) : Host.Outcome State Fault Refusal :=
  .next (s.operating fun s => if (s.ax axis).ramp.step.isSome then (s.pulse axis).settle else s)

/-- The meaning of STEP_HIGH_TIME_END: STEP returns low, and a DIR change due is applied (R110, R111). -/
def execStepHighTimeEnd (axis : Axis) (s : State) : Host.Outcome State Fault Refusal :=
  .next (s.operating fun s =>
    if (s.ax axis).drive.stepHigh.isSome then s.modAx axis fun x => { x with drive := x.drive.endHigh } else s)

/-- The drive fault a sample gives, if any: STEP is compared with high, then DIR with the level driven for the pulse
(R113). -/
def Sample.fault (q : Sample) (step dir : Level) : Option DriveDetail :=
  if step = .low then some .readbackStep else if dir = q.dir then none else some .readbackDir

/-- The outstanding sample is taken: the pins show the two levels, which become the last known ones, and a mismatch is a drive
fault (R113; log 6). The check
is on and the axis enabled, or AXCONFIG would have discarded the sample. -/
def State.takeSample (s : State) (a : Axis) (step dir : Level) : State :=
  match (s.ax a).drive.sample with
  | none => s
  | some q =>
    let s := s.modAx a fun x => { x with drive := { x.drive with stepPin := step, dirPin := dir, sample := none } }
    match q.fault step dir with
    | none => s
    | some detail => (s.driveFault a detail).settle

/-- The meaning of READBACK_SAMPLE (R113). -/
def execReadbackSample (axis : Axis) (step dir : Level) (s : State) : Host.Outcome State Fault Refusal :=
  .next (s.operating fun s => s.takeSample axis step dir)

/-- The meaning of DWELL_EXPIRY: the DWELL reaches its planned end (R31, R46). -/
def execDwellExpiry (axis : Axis) (s : State) : Host.Outcome State Fault Refusal :=
  .next (s.operating fun s =>
    if (s.ax axis).mode = .dwelling then (s.endMove axis (.done .plain) 0).settle else s)

/-- One axis at the expiry of its gate's timer: its move becomes held and it offers GATE_TIMEOUT (R78). -/
def State.timeoutAxis (s : State) (a : Axis) (g : GateTag) (set : AxisSet) : State :=
  (s.modAx a (·.hold)).offerReport a (.gateTimeout g) (((s.ax a).current.map (·.tag)).getD 0) set.toNat

/-- The expiry of a gate's timer: the arrival set becomes empty, the timer stops, and every axis of the set, which is GATED
(R73), is held and reports (R78). -/
def State.expireGate (s : State) (g : GateTag) : State :=
  let set := (s.gate g).arrivals
  State.forAxes (fun a s => if inSet set a ∧ (s.ax a).mode = .gated then s.timeoutAxis a g set else s)
    (s.modGate g fun q => { q with arrivals := 0, timer := none })

/-- The meaning of GATE_TIMER_EXPIRY (R77, R78). -/
def execGateTimerExpiry (gate : GateTag) (s : State) : Host.Outcome State Fault Refusal :=
  .next (s.operating fun s => if (s.gate gate).timer.isSome then (s.expireGate gate).settle else s)

/-- The meaning of GATE_FIRE (R76). The arrival that completes a set fires its gate in the same step (R74), so that a gate
left complete is a state no run reaches (log 7). -/
def execGateFire (gate : GateTag) (s : State) : Host.Outcome State Fault Refusal :=
  .next (s.operating fun s => if (s.gate gate).complete then (s.fireGate gate).settle else s)

/-- The meaning of PLACE_GRANTED: free places are granted to the waiting axes (R128, R129). POP grants the place it frees in
the same step, so that a free place beside a waiting axis is a state no run reaches (log 7). -/
def execPlaceGranted (s : State) : Host.Outcome State Fault Refusal := .next (s.operating State.settle)

end Sys2Proof.Machine
end

