-- ==== Sys2Proof/Machine/Dispatch.lean ====
section
/-! DEFINITION. One arm for each command: its effect on everything but the queue. -/

namespace Sys2Proof.Machine

def exec (i : Instr) (s : State) : Host.Outcome State Fault Refusal :=
  match i with
  | .post => Sys2Proof.Machine.execPost s
  | .abort => Sys2Proof.Machine.execAbort s
  | .flush => Sys2Proof.Machine.execFlush s
  | .resume => Sys2Proof.Machine.execResume s
  | .setpos => Sys2Proof.Machine.execSetpos s
  | .limits => Sys2Proof.Machine.execLimits s
  | .axconfig => Sys2Proof.Machine.execAxconfig s
  | .axquery => Sys2Proof.Machine.execAxquery s
  | .profile => Sys2Proof.Machine.execProfile s
  | .profquery => Sys2Proof.Machine.execProfquery s
  | .gateset => Sys2Proof.Machine.execGateset s
  | .gateclear => Sys2Proof.Machine.execGateclear s
  | .gatequery => Sys2Proof.Machine.execGatequery s
  | .pop => Sys2Proof.Machine.execPop s
  | .haltall => Sys2Proof.Machine.execHaltall s
  | .softreset => Sys2Proof.Machine.execSoftreset s
  | .badCommand code => Sys2Proof.Machine.execBadCommand code s
  | .axpos0Read => Sys2Proof.Machine.execAxpos0Read s
  | .rdataRead => Sys2Proof.Machine.execRdataRead s
  | .iflagWrite value => Sys2Proof.Machine.execIflagWrite value s
  | .windowWrite offset value => Sys2Proof.Machine.execWindowWrite offset value s
  | .hardwareReset => Sys2Proof.Machine.execHardwareReset s
  | .resetRelease => Sys2Proof.Machine.execResetRelease s
  | .stepPulse axis => Sys2Proof.Machine.execStepPulse axis s
  | .stepHighTimeEnd axis => Sys2Proof.Machine.execStepHighTimeEnd axis s
  | .readbackSample axis step dir => Sys2Proof.Machine.execReadbackSample axis step dir s
  | .dwellExpiry axis => Sys2Proof.Machine.execDwellExpiry axis s
  | .gateTimerExpiry gate => Sys2Proof.Machine.execGateTimerExpiry gate s
  | .gateFire gate => Sys2Proof.Machine.execGateFire gate s
  | .placeGranted => Sys2Proof.Machine.execPlaceGranted s
  | .sensPinChange axis level => Sys2Proof.Machine.execSensPinChange axis level s
  | .leadingEdge axis => Sys2Proof.Machine.execLeadingEdge axis s
  | .trailingEdge axis => Sys2Proof.Machine.execTrailingEdge axis s
  | .fltPinChange axis level => Sys2Proof.Machine.execFltPinChange axis level s
  | .fltAssertion axis => Sys2Proof.Machine.execFltAssertion axis s
  | .fltDeassertion axis => Sys2Proof.Machine.execFltDeassertion axis s
  | .stopPinChange level => Sys2Proof.Machine.execStopPinChange level s
  | .stopAssertion => Sys2Proof.Machine.execStopAssertion s
  | .stopDeassertion => Sys2Proof.Machine.execStopDeassertion s

end Sys2Proof.Machine
end

