-- ==== Sys2Proof/Safety.lean ====
section
/-! DEFINITION. The terms in which claims about the part are made: the invariants of its state, and the conditions under which
a command's effect meets no other axis. Every predicate here can be decided on a concrete state. -/

namespace Sys2Proof.Machine

/-! ## Moves in slots (R12, R32, R69) -/

/-- The moves of an axis that occupy slots: queued, current and held (R12). -/
def AxisState.moves (x : AxisState) : List Move := x.queue ++ x.current.toList ++ x.held.toList

/-- The moves of all four axes. -/
def State.moves (s : State) : List Move :=
  (s.ax .A).moves ++ (s.ax .B).moves ++ (s.ax .C).moves ++ (s.ax .D).moves

/-- The pool's law: the free slots and the moves add up to 32 (R12). -/
abbrev State.PoolLaw (s : State) : Prop := s.poolFree + s.moves.length = Config.poolSlots

/-- Each use count is the number of moves that name the profile or carry the gate's tag (R32, R69). -/
abbrev State.UseCounts (s : State) : Prop :=
  (∀ p : ProfileNo, (s.prof p).useCount = s.moves.countP fun m => m.task.profile? == some p) ∧
  (∀ g : GateTag, (s.gate g).useCount = s.moves.countP fun m => m.gate == some g)

/-! ## The shape of an axis (R38, R45, R52, R55) -/

/-- Which items an axis has in its state (Table 3-2), with: a pending step exactly in the running states and STOPPING, a stop
intent exactly in STOPPING, a drive-owed flag only in REPORTING, the enable field set exactly outside DISABLED, the halt
cause NONE outside REPORTING and HALTED, and a CONTINUE path only without a held move and without an unreported drive fault. -/
def AxisState.shaped (x : AxisState) : Bool :=
  (match x.mode with
   | .disabled | .idle => x.queue.isEmpty && x.current.isNone && x.held.isNone && x.offer.isNone
   | .gated => x.current.any (·.gate.isSome) && x.held.isNone && x.offer.isNone
   | .accel | .cruise | .decel | .stopping =>
     x.current.any (·.task.profile?.isSome) && x.held.isNone && x.offer.isNone
   | .dwelling => x.current.any (·.task.profile?.isNone) && x.held.isNone && x.offer.isNone
   | .reporting => x.current.isNone && x.offer.any fun o => o.path != .cont || (x.held.isNone && (x.cause == .none || x.owed.isSome))
   | .halted => x.current.isNone && x.offer.isNone)
  && (x.ramp.step.isSome == (x.mode.running || x.mode == .stopping))
  && (x.intent.isSome == (x.mode == .stopping))
  && (x.owed.isNone || x.mode == .reporting)
  && (x.config.enable == (x.mode != .disabled))
  && (x.mode == .reporting || x.mode == .halted || x.cause == .none)

/-- Every axis has the shape of its state. -/
abbrev State.Shaped (s : State) : Prop := ∀ a ∈ Axis.all, (s.ax a).shaped = true

/-! ## Queues and configurations (R14, R15, R88) -/

/-- The quota in 1 to 32, the sensor filter in 0 to 255 µs, and the queue within the quota. -/
def AxisState.configLegal (x : AxisState) : Bool :=
  1 ≤ x.config.quota && x.config.quota ≤ Config.maxQuota && x.config.filter ≤ 255 && x.queue.length ≤ x.config.quota

/-- Every axis has a legal configuration and a queue within its quota. -/
abbrev State.ConfigsLegal (s : State) : Prop := ∀ a ∈ Axis.all, (s.ax a).configLegal = true

/-! ## The Report Queue (R125, R130, R132) -/

/-- The sequence numbers of a list of reports that ends just before a given number. -/
def consecutive : List Deposited → Byte → Bool
  | [], _ => true
  | d :: rest, next => d.seq == next - BitVec.ofNat 8 (rest.length + 1) && consecutive rest next

/-- At most 16 reports; the read pointer in 0 to 10, and 0 with the list empty; consecutive sequence numbers; and an axis
waits with an undelivered report only while the list is full. -/
abbrev State.ReportsOrdered (s : State) : Prop :=
  s.reports.reports.length ≤ Config.reportPlaces ∧
  s.reports.pointer ≤ 10 ∧
  (s.reports.reports = [] → s.reports.pointer = 0) ∧
  consecutive s.reports.reports s.reports.seq = true ∧
  (∀ a ∈ Axis.all, (s.ax a).offer.isSome = true → s.reports.reports.length = Config.reportPlaces)

/-! ## Positions (R2, R40, R59, R61) -/

/-- The legal values of a move (R2). -/
def Task.legal : Task → Bool
  | .absolute v _ _ | .relative v _ _ => Config.minPosition ≤ v && v ≤ Config.maxPosition
  | .seek v _ _ => Config.minPosition ≤ v && v ≤ Config.maxPosition && v != 0
  | .dwell ms => 1 ≤ ms && ms ≤ 65535

/-- The rest of a move with distance stays in range: an ABSOLUTE or RELATIVE move ends inside the soft limits, a SEEK inside
the position range, from its present position and from 0. -/
def AxisState.restInRange (x : AxisState) (t : Task) : Bool :=
  match t, x.ramp.dir with
  | .seek _ _ _, .plus => (x.ramp.r : Int) ≤ Config.maxPosition && x.position + x.ramp.r ≤ Config.maxPosition
  | .seek _ _ _, .minus => Config.minPosition ≤ -(x.ramp.r : Int) && Config.minPosition ≤ x.position - x.ramp.r
  | _, .plus => x.position + x.ramp.r ≤ x.limitMax
  | _, .minus => x.limitMin ≤ x.position - x.ramp.r

/-- The position counter and the soft limits are in the position range, every move is legal, a GATED move has passed its limit
check, and a running or stopping move still has pulses to go and stays in range. -/
def AxisState.inRange (x : AxisState) : Bool :=
  Config.minPosition ≤ x.limitMin && x.limitMin ≤ x.limitMax && x.limitMax ≤ Config.maxPosition
  && Config.minPosition ≤ x.position && x.position ≤ Config.maxPosition
  && x.moves.all (·.task.legal)
  && (x.mode != .gated
      || x.current.all fun m => x.plannedEnd == m.task.plannedEnd x.position && (x.limitCheck m.task).isNone)
  && (!(x.mode.running || x.mode == .stopping)
      || (1 ≤ x.ramp.r && x.current.all fun m => x.restInRange m.task))

/-- Every axis is in range. -/
abbrev State.InRange (s : State) : Prop := ∀ a ∈ Axis.all, (s.ax a).inRange = true

/-! ## Profiles and ramps (R20, R23) -/

/-- Every profile record holds legal values (R20). -/
abbrev State.ProfilesLegal (s : State) : Prop :=
  ∀ p : ProfileNo, profileLegal (s.prof p).start (s.prof p).cruise (s.prof p).length = true

/-- A running or stopping axis is timed by its move's profile: the pending step is the one R23 decides from k and r, and k does
not exceed the ramp length. -/
def State.rampPlanned (s : State) (a : Axis) : Bool :=
  let x := s.ax a
  let p := s.prof x.ramp.profile
  !(x.mode.running || x.mode == .stopping)
  || (x.current.bind (·.task.profile?) == some x.ramp.profile && x.ramp.step == some (p.decide x.ramp.k x.ramp.r)
      && x.ramp.k ≤ p.length)

/-- Every axis is timed by R23. -/
abbrev State.RampsPlanned (s : State) : Prop := ∀ a ∈ Axis.all, s.rampPlanned a = true

/-! ## Gates (R9, R73, R77) -/

/-- An axis is in a gate's arrival set exactly when it is GATED with a current move carrying that gate's tag (R73). -/
abbrev State.ArrivalsExact (s : State) : Prop :=
  ∀ g : GateTag, ∀ a ∈ Axis.all,
    inSet (s.gate g).arrivals a = ((s.ax a).mode == .gated && (s.ax a).current.any (·.gate == some g))

/-- A queued, current or held gated move names a gate that lists its axis (R9). -/
abbrev State.MembersListed (s : State) : Prop :=
  ∀ g : GateTag, ∀ a ∈ Axis.all,
    (s.ax a).moves.any (·.gate == some g) = true → inSet (s.gate g).members a = true

/-- A gate's timeout is in 0 to 65535 ms, and its timer runs only while its arrival set is not empty and its timeout is nonzero,
with no more than the timeout remaining (R68, R77). -/
abbrev State.TimersGuarded (s : State) : Prop :=
  ∀ g : GateTag,
    (s.gate g).timeout ≤ 65535 ∧
    ((s.gate g).timer.isSome = true → (s.gate g).arrivals ≠ 0 ∧ (s.gate g).timeout ≠ 0) ∧
    (s.gate g).timer.all (· ≤ (s.gate g).timeout * 1000) = true

/-! ## Filters (R88, R114, R137) -/

/-- A filter count exists exactly while the pin shows the level that is not the qualified one. -/
def FilteredInput.counted (f : FilteredInput) : Bool := f.count.isSome == (f.pin != f.qualified)

/-- Every filter counts exactly while its pin differs; while /RESET is held low no filter counts. -/
abbrev State.FiltersCounted (s : State) : Prop :=
  if s.inReset then
    s.stop.count = none ∧ ∀ a ∈ Axis.all, (s.ax a).sens.count = none ∧ (s.ax a).drive.flt.count = none
  else
    s.stop.counted = true ∧ ∀ a ∈ Axis.all, (s.ax a).sens.counted = true ∧ (s.ax a).drive.flt.counted = true

/-! ## Conditions for statements about one command -/

/-- No axis waits with an undelivered report. -/
abbrev State.NoOffers (s : State) : Prop := ∀ a ∈ Axis.all, (s.ax a).offer = none

/-- No free place stands beside a waiting axis: there is nothing to grant (R125). -/
abbrev State.NothingToGrant (s : State) : Prop :=
  s.NoOffers ∨ s.reports.reports.length = Config.reportPlaces

/-- The part operates, no axis waits to deliver a report, and the Report Queue has a free place: a report that one axis builds
is deposited at once, ahead of nothing (R50). -/
abbrev State.Clear (s : State) : Prop :=
  s.inReset = false ∧ s.NoOffers ∧ s.reports.reports.length < Config.reportPlaces

/-- The part operates, no axis waits to deliver a report, and the Report Queue is full: a report that one axis builds waits
(R50). -/
abbrev State.Full (s : State) : Prop :=
  s.inReset = false ∧ s.NoOffers ∧ s.reports.reports.length = Config.reportPlaces

/-- The part operates, no axis waits to deliver a report, and the Report Queue holds no more than its places: a report that one
axis builds is deposited at once or, with the queue full, waits (R50). -/
abbrev State.Quiet (s : State) : Prop :=
  s.inReset = false ∧ s.NoOffers ∧ s.reports.reports.length ≤ Config.reportPlaces

/-- A command answers a next state, of which something holds. -/
def Leads (o : Host.Outcome State Fault Refusal) (P : State → Prop) : Prop := ∃ t, o = .next t ∧ P t

/-- The selected axis passes the checks of POST for the record in the parameter block (Table 1-2). -/
abbrev State.Accepts (s : State) (m : Move) : Prop :=
  s.inReset = false ∧ (s.ax s.axsel).mode ≠ .disabled ∧ moveOfBlock s.block = some m ∧
  (∀ g : GateTag, m.gate = some g → inSet (s.gate g).members s.axsel = true) ∧
  (s.ax s.axsel).queue.length < (s.ax s.axsel).config.quota ∧ s.poolFree ≠ 0

/-- The axis is free for the commands that act on it when it is IDLE: an empty queue and no drive fault owed. -/
abbrev AxisState.Free (x : AxisState) : Prop := x.mode = .idle ∧ x.queue = [] ∧ x.owed = none

/-- What the end of an axis's current move leaves when its report is deposited at once and its path is HALTED: the slot
returned, the report at the tail, the flags REPORT and HALT latched, and the axis HALTED with no current move
(R47, R50, R54, R126). -/
def State.endedHalted (s : State) (a : Axis) (m : Move) (finding : Finding) (aux : Nat) (cause : HaltCause) : State :=
  let x := s.ax a
  let t := (s.release m).deposit
    { axis := a, finding := finding, tag := m.tag, position := x.position, aux := aux }
  { t with
    iflag := t.iflag ||| flagHALT
    axes := t.axes.set a.idx { x.clearMove with mode := .halted, cause := x.cause.enter cause } }

/-- What the end of an axis's current move leaves when its report is deposited at once and its path is CONTINUE: the slot
returned, the report at the tail, REPORT latched, then the take of the head of the queue, or IDLE
(R47, R50, R53, R126). -/
def State.endedContinue (s : State) (a : Axis) (m : Move) (finding : Finding) (aux : Nat) : State :=
  let x := s.ax a
  let t := (s.release m).deposit
    { axis := a, finding := finding, tag := m.tag, position := x.position, aux := aux }
  ({ t with axes := t.axes.set a.idx { x.clearMove with mode := .reporting } }.takeNext a).settle

/-- What the end of an axis's current move leaves when the Report Queue is full: the slot returned, and the axis in REPORTING
with the report and the path of its kind (R47, R50). -/
def State.endedWaiting (s : State) (a : Axis) (m : Move) (finding : Finding) (aux : Nat) : State :=
  let x := s.ax a
  let t := s.release m
  { t with
    axes := t.axes.set a.idx
      { x.clearMove with
        mode := .reporting
        offer := some
          { report := { axis := a, finding := finding, tag := m.tag, position := x.position, aux := aux }
            path := finding.path } } }

/-- What the end of an axis's current move leaves when its path is HALTED, with a place free or none (R50). -/
def State.endedStop (s : State) (a : Axis) (m : Move) (finding : Finding) (aux : Nat) (cause : HaltCause) : State :=
  if s.reports.reports.length < Config.reportPlaces then s.endedHalted a m finding aux cause
  else s.endedWaiting a m finding aux

/-- What the end of an axis's current move leaves when its path is CONTINUE, with a place free or none (R50). -/
def State.endedGoOn (s : State) (a : Axis) (m : Move) (finding : Finding) (aux : Nat) : State :=
  if s.reports.reports.length < Config.reportPlaces then s.endedContinue a m finding aux
  else s.endedWaiting a m finding aux

/-- What a drive fault that ends no move leaves when its report is deposited at once: the report at the tail, REPORT and HALT
latched, and the axis HALTED with cause DRIVE (R54, R115, R117, R126). -/
def State.faultedAlone (s : State) (a : Axis) (x : AxisState) (detail : DriveDetail) (tag : Byte) : State :=
  let t := s.deposit { axis := a, finding := .driveFault detail, tag := tag, position := x.position, aux := 0 }
  { t with
    iflag := t.iflag ||| flagHALT
    axes := t.axes.set a.idx { x with mode := .halted, cause := .drive } }

/-- What a drive fault that ends no move leaves when the Report Queue is full: the axis in REPORTING with cause DRIVE, its
DRIVEFAULT pending with the path HALTED, cause DRIVE (R50, R55, R115, R117). -/
def State.faultedWaiting (s : State) (a : Axis) (x : AxisState) (detail : DriveDetail) (tag : Byte) : State :=
  { s with
    axes := s.axes.set a.idx
      { x with
        mode := .reporting, cause := .drive
        offer := some
          { report := { axis := a, finding := .driveFault detail, tag := tag, position := x.position, aux := 0 }
            path := .halted .drive } } }

/-- What a drive fault that ends no move leaves, with a place free or none (R50). -/
def State.faulted (s : State) (a : Axis) (x : AxisState) (detail : DriveDetail) (tag : Byte) : State :=
  if s.reports.reports.length < Config.reportPlaces then s.faultedAlone a x detail tag else s.faultedWaiting a x detail tag

/-! ## Several axes that report at one event (R127, R128) -/

/-- Of the axes that offer reports at one event, those that a free place is granted to, in the arbiter's order. -/
def State.granted (s : State) (offers : Axis → Bool) : List Axis :=
  ((arbiterOrder s.reports.last).filter offers).take (Config.reportPlaces - s.reports.reports.length)

/-- Of the axes that offer reports at one event, those that no free place is left for. -/
def State.ungranted (s : State) (offers : Axis → Bool) : List Axis :=
  ((arbiterOrder s.reports.last).filter offers).drop (Config.reportPlaces - s.reports.reports.length)

/-- The Report Queue after the deposits of a list of axes, in its order. -/
def State.deposited (s : State) (axes : List Axis) (report : Axis → Report) : ReportQueue :=
  { s.reports with
    reports := s.reports.reports ++
      axes.zipIdx.map fun (a, i) => { seq := s.reports.seq + BitVec.ofNat 8 i, report := report a }
    seq := s.reports.seq + BitVec.ofNat 8 axes.length
    last := axes.getLastD s.reports.last }

end Sys2Proof.Machine
end

