-- ==== Sys2Proof/Certificates/Slice0/Obligations.lean ====
section
/-! DEFINITION. The statements for the provers. Each docstring names the rule it formalises.
"The model's choice" marks a clause that rests on an entry of the assumption log. -/

open Sys2Proof Sys2Proof.Machine

/-! ## The machine as a whole -/

/-- A step with a command at the front of the queue is that command's meaning on the state with the queue's rest
(the interface; log 20). -/
def Obligations.StepRunsTheFrontCommand : Prop :=
  ∀ (c : Instr) (rest : List Instr) (s : State),
    step { s with pending := c :: rest } = exec c { s with pending := rest }

/-- Every well-formed command answers a next state in every state, and an ill-formed term is refused by that name
(R154: every consequence of a command is carried out; log 17, log 19). -/
def Obligations.WellFormedCommandsAlwaysComplete : Prop :=
  ∀ (c : Instr) (s : State),
    (c.wf = true → ∃ t, exec c s = .next t) ∧ (c.wf = false → exec c s = .refused .illFormed)

/-- On an empty queue a step lets 1 µs pass when no event is due, runs the event that is due, and of several runs one of them:
the model's choice (log 2, log 3). An event is due when its period has passed: a step its interval, a pulse 5 µs, a readback
sample 4 µs after its pulse, a DWELL and a gate timer when nothing remains, SENS after F µs, /FLT and /STOP after 10 µs; 1 µs
moves these periods and nothing else (R24, R28, R31, R77, R88, R110, R113, R114, R137; the levels an own sample reads: log 6).
An event that is given by name and has nothing to act on changes nothing (the model's choice: log 1, log 7). -/
def Obligations.EmptyQueueRunsDueEventsThenTime : Prop :=
  ∀ s : State,
    (s.pending = [] →
      (s.dueEvents = [] → step s = .next s.tick) ∧
      (∀ c, s.dueEvents = [c] → step s = exec c s) ∧
      (1 < s.dueEvents.length → ∃ c ∈ s.dueEvents, step s = exec c { s with choices := s.choices + 1 })) ∧
    (s.inReset = false →
      (∀ a : Axis,
        let x := s.ax a
        (.stepPulse a ∈ s.dueEvents ↔ ∃ st, x.ramp.step = some st ∧ st.interval ≤ x.ramp.elapsed) ∧
        (.stepHighTimeEnd a ∈ s.dueEvents ↔ ∃ us, x.drive.stepHigh = some us ∧ 5 ≤ us) ∧
        (∀ step dir : Level, .readbackSample a step dir ∈ s.dueEvents ↔
          step = x.drive.stepPin ∧ dir = x.drive.dirPin ∧ ∃ q, x.drive.sample = some q ∧ 4 ≤ q.elapsed) ∧
        (.dwellExpiry a ∈ s.dueEvents ↔ x.mode = .dwelling ∧ x.dwell = 0) ∧
        (.leadingEdge a ∈ s.dueEvents ↔
          x.sens.pin = x.config.activeLevel ∧ ∃ us, x.sens.count = some us ∧ x.config.filter ≤ us) ∧
        (.trailingEdge a ∈ s.dueEvents ↔
          x.sens.pin ≠ x.config.activeLevel ∧ ∃ us, x.sens.count = some us ∧ x.config.filter ≤ us) ∧
        (.fltAssertion a ∈ s.dueEvents ↔ x.drive.flt.pin = .low ∧ ∃ us, x.drive.flt.count = some us ∧ 10 ≤ us) ∧
        (.fltDeassertion a ∈ s.dueEvents ↔ x.drive.flt.pin = .high ∧ ∃ us, x.drive.flt.count = some us ∧ 10 ≤ us) ∧
        s.tick.ax a =
          { x with
            ramp := { x.ramp with elapsed := if x.ramp.step = none then x.ramp.elapsed else x.ramp.elapsed + 1 }
            dwell := x.dwell - 1
            sens := { x.sens with count := x.sens.count.map (· + 1) }
            drive :=
              { x.drive with
                stepHigh := x.drive.stepHigh.map (· + 1)
                sample := x.drive.sample.map fun q => { q with elapsed := q.elapsed + 1 }
                flt := { x.drive.flt with count := x.drive.flt.count.map (· + 1) } } }) ∧
      (∀ g : GateTag,
        (.gateTimerExpiry g ∈ s.dueEvents ↔ (s.gate g).timer = some 0) ∧
        s.tick.gate g = { s.gate g with timer := (s.gate g).timer.map (· - 1) }) ∧
      (.stopAssertion ∈ s.dueEvents ↔ s.stop.pin = .low ∧ ∃ us, s.stop.count = some us ∧ 10 ≤ us) ∧
      (.stopDeassertion ∈ s.dueEvents ↔ s.stop.pin = .high ∧ ∃ us, s.stop.count = some us ∧ 10 ≤ us) ∧
      s.tick = { s with
        axes := s.tick.axes, gates := s.tick.gates, stop := { s.stop with count := s.stop.count.map (· + 1) } }) ∧
    (∀ a : Axis,
      let x := s.ax a
      (x.ramp.step = none → exec (.stepPulse a) s = .next s) ∧
      (x.drive.stepHigh = none → exec (.stepHighTimeEnd a) s = .next s) ∧
      (x.drive.sample = none → ∀ step dir : Level, exec (.readbackSample a step dir) s = .next s) ∧
      (x.mode ≠ .dwelling → exec (.dwellExpiry a) s = .next s) ∧
      (x.sens.count = none → exec (.leadingEdge a) s = .next s ∧ exec (.trailingEdge a) s = .next s) ∧
      (x.sens.pin ≠ x.config.activeLevel → exec (.leadingEdge a) s = .next s) ∧
      (x.sens.pin = x.config.activeLevel → exec (.trailingEdge a) s = .next s) ∧
      (x.drive.flt.count = none → exec (.fltAssertion a) s = .next s ∧ exec (.fltDeassertion a) s = .next s) ∧
      (x.drive.flt.pin = .high → exec (.fltAssertion a) s = .next s) ∧
      (x.drive.flt.pin = .low → exec (.fltDeassertion a) s = .next s)) ∧
    (∀ g : GateTag,
      ((s.gate g).timer = none → exec (.gateTimerExpiry g) s = .next s) ∧
      ((s.gate g).members = 0 ∨ (s.gate g).arrivals ≠ (s.gate g).members → exec (.gateFire g) s = .next s)) ∧
    (s.stop.count = none → exec .stopAssertion s = .next s ∧ exec .stopDeassertion s = .next s) ∧
    (s.stop.pin = .high → exec .stopAssertion s = .next s) ∧ (s.stop.pin = .low → exec .stopDeassertion s = .next s) ∧
    (s.NothingToGrant → exec .placeGranted s = .next s)

/-- While /RESET is held low the writes to the window and the events change nothing, reads return 00h, a HARDWARE_RESET after a
HARDWARE_RESET leaves every block as it stands, and time moves nothing (R166). That a pin change is recorded, and starts no
filter, is the model's reading (log 13); what D0–D7 keep after a read is the model's (log 10). -/
def Obligations.HeldResetIgnoresAllButPins : Prop :=
  ∀ (s : State) (c : Instr), s.inReset = true → c.wf = true →
    (c.busBytes.isSome = true → exec c s = .next s) ∧
    (∀ a l k, c = .stepPulse a ∨ c = .stepHighTimeEnd a ∨ c = .readbackSample a l k ∨ c = .dwellExpiry a ∨
      c = .leadingEdge a ∨ c = .trailingEdge a ∨ c = .fltAssertion a ∨ c = .fltDeassertion a → exec c s = .next s) ∧
    (∀ g, c = .gateTimerExpiry g ∨ c = .gateFire g → exec c s = .next s) ∧
    (c = .placeGranted ∨ c = .stopAssertion ∨ c = .stopDeassertion → exec c s = .next s) ∧
    (c = .axpos0Read ∨ c = .rdataRead → exec c s = .next { s with dataOut := 0 }) ∧
    (∀ a l, c = .sensPinChange a l →
      exec c s = .next (s.setAx a { s.ax a with sens := { (s.ax a).sens with pin := l } })) ∧
    (∀ a l, c = .fltPinChange a l →
      exec c s = .next (s.setAx a
        { s.ax a with drive := { (s.ax a).drive with flt := { (s.ax a).drive.flt with pin := l } } })) ∧
    (∀ l, c = .stopPinChange l → exec c s = .next { s with stop := { s.stop with pin := l } }) ∧
    Leads (exec .hardwareReset s) (fun t => t.inReset = true ∧ exec .hardwareReset t = .next t) ∧
    (∀ pins offset, s.readLocation pins offset = 0) ∧ s.tick = s ∧ s.dueEvents = []

/-- The values after a hardware reset: what every location of the window reads (Table 9-1), and every item of each axis, each
profile, each gate, the Report Queue, the Stop logic and the port (R19, R35, R36, R66, R86, R108, R121, R135, R151, R153, R157).
The model's choices among them: the levels of the input pins SENS, /FLT and /STOP (log 4), /RESET high (log 5), the readback
levels a sample of the part's own reads (log 6), dataOut (log 10), the direction and the profile of the ramp state (log 11), the
count of free choices (log 3) and the empty queue (log 20). AXIN bits 4 and 5 are the pins at the read. -/
def Obligations.ResetValuesAreTheManuals : Prop :=
  (∀ (pins : Readback) (offset : Fin 32), State.reset.readLocation pins (BitVec.ofNat 5 offset) =
    if offset = 0 then 0x9C else if offset = 3 then 32
    else if offset = 0x0C then 0x0C + (if pins.step = .high then 0x10 else 0) + (if pins.dir = .high then 0x20 else 0)
    else 0) ∧
  (∀ a ∈ Axis.all, State.reset.ax a =
    { mode := .disabled, queue := [], current := none, held := none, plannedEnd := none
      ramp := { profile := 0, k := 0, r := 0, stepsRun := 0, dir := .plus, step := none, elapsed := 0 }
      dwell := 0, intent := none, position := 0, limitMin := -8388608, limitMax := 8388607
      cause := .none, offer := none, owed := none
      config :=
        { enable := false, quota := 8, activeLevel := .high, filter := 20, readback := true, dirInverted := false }
      sens := { pin := .low, qualified := .low, count := none }
      mark :=
        { window := .unarmed, position := none, width := .unarmed, widthCount := 0, search := .unarmed, edgeSteps := 0
          registration := .unplanned }
      drive :=
        { stepHigh := none, dir := .low, dirDue := none, stepPin := .low, dirPin := .low, sample := none
          flt := { pin := .high, qualified := .high, count := none } } }) ∧
  (∀ a ∈ Axis.all, (State.reset.ax a).drive.step = .low ∧ (State.reset.ax a).ena = false) ∧
  (∀ p : ProfileNo, State.reset.prof p = { start := 4000, cruise := 1000, length := 200, useCount := 0 }) ∧
  (∀ g : GateTag, State.reset.gate g = { members := 0, timeout := 0, arrivals := 0, timer := none, useCount := 0 }) ∧
  State.reset =
    { axes := State.reset.axes, profiles := State.reset.profiles, gates := State.reset.gates, poolFree := 32
      reports := { reports := [], seq := 0, last := .D, pointer := 0 }
      stop := { pin := .high, qualified := .high, count := none }, style := .controlled
      block := .replicate 16 0, cres := .ok, axsel := .A, snapshot := 0, iflag := 0, ienable := 0
      dataOut := 0, inReset := false, choices := 0, pending := [] } ∧
  State.reset.intAsserted = false

/-- Every invariant stated below holds at State.reset. -/
def Obligations.ResetMeetsEveryInvariant : Prop :=
  State.reset.Shaped ∧ State.reset.PoolLaw ∧ State.reset.ConfigsLegal ∧ State.reset.UseCounts ∧ State.reset.ReportsOrdered ∧
  State.reset.InRange ∧ State.reset.ProfilesLegal ∧ State.reset.RampsPlanned ∧ State.reset.ArrivalsExact ∧
  State.reset.MembersListed ∧ State.reset.TimersGuarded ∧ State.reset.FiltersCounted

/-! ## Invariants that every step keeps -/

/-- Each axis keeps the items that Table 3-2 gives its state (R38, with R45, R52 and R55). -/
def Obligations.AxisShapeKept : Prop :=
  ∀ s t : State, s.Shaped → step s = .next t → t.Shaped

/-- The free slots and the queued, current and held moves always add up to 32 (R12), no queue holds more moves than its quota,
and every quota stays in 1 to 32 and every sensor filter in 0 to 255 (R14, R15, R88). -/
def Obligations.PoolLawKept : Prop :=
  ∀ s t : State, s.Shaped → step s = .next t → (s.PoolLaw → t.PoolLaw) ∧ (s.ConfigsLegal → t.ConfigsLegal)

/-- A profile's and a gate's use count stay the number of moves that name it (R32, R69). -/
def Obligations.UseCountsKept : Prop :=
  ∀ s t : State, s.Shaped → s.UseCounts → step s = .next t → t.UseCounts

/-- The Report Queue never holds more than 16 reports, their sequence numbers stay consecutive, the read pointer is 0 with the
list empty, and an axis waits only while the list is full (R125, R130, R132). -/
def Obligations.ReportQueueOrderKept : Prop :=
  ∀ s t : State, s.ReportsOrdered → step s = .next t → t.ReportsOrdered

/-- The position counter of every axis stays within −8,388,608 to +8,388,607 (R59). -/
def Obligations.PositionsStayInRange : Prop :=
  ∀ s t : State, s.Shaped → s.InRange → step s = .next t → t.InRange

/-- Every profile record always holds values inside the ranges of Table 2-1 (R20). -/
def Obligations.ProfilesStayLegal : Prop :=
  ∀ s t : State, s.ProfilesLegal → step s = .next t → t.ProfilesLegal

/-- The pending step is always the one R23 decides from k and r on the move's own profile, and k never exceeds its ramp
length (R22, R23, R34). -/
def Obligations.RampsStayPlanned : Prop :=
  ∀ s t : State, s.Shaped → s.UseCounts → s.RampsPlanned → step s = .next t → t.RampsPlanned

/-- An axis is in a gate's arrival set exactly when it is GATED with a current move carrying that gate's tag (R73). -/
def Obligations.ArrivalSetsStayExact : Prop :=
  ∀ s t : State, s.Shaped → s.ArrivalsExact → step s = .next t → t.ArrivalsExact

/-- A queued, current or held gated move always names a gate that lists its axis (R9). -/
def Obligations.GatedMovesStayMembers : Prop :=
  ∀ s t : State, s.Shaped → s.UseCounts → s.MembersListed → step s = .next t → t.MembersListed

/-- A gate's timer runs only while its arrival set is not empty and its timeout is nonzero, with no more than the timeout
remaining, and a timeout stays in 0 to 65535 ms (R68, R77). -/
def Obligations.GateTimersStayGuarded : Prop :=
  ∀ s t : State, s.Shaped → s.UseCounts → s.ArrivalsExact → s.TimersGuarded → step s = .next t → t.TimersGuarded

/-- A filter count exists exactly while the pin shows the level that is not the qualified one (R88, R114, R137, R166). -/
def Obligations.FilterCountsKept : Prop :=
  ∀ s t : State, s.FiltersCounted → step s = .next t → t.FiltersCounted

/-! ## Only its owner writes each part of the setup -/

/-- The soft limits are written by LIMITS, the configuration by AXCONFIG, a gate's members and timeout by GATESET and
GATECLEAR, and a profile record by PROFILE alone, a hardware reset apart (R20, R61, R62, R68). The position counter is written
by SETPOS on the selected axis, by a soft reset, and by the commands and events in which a pulse or the start or edge of a SEEK
can fall, which move it by one step, put it to 0, or both (R59). -/
def Obligations.SetupWrittenByItsOwners : Prop :=
  ∀ (c : Instr) (s t : State), exec c s = .next t → c ≠ .hardwareReset →
    (c ≠ .limits → ∀ a, (t.ax a).limitMin = (s.ax a).limitMin ∧ (t.ax a).limitMax = (s.ax a).limitMax) ∧
    (c ≠ .axconfig → ∀ a, (t.ax a).config = (s.ax a).config) ∧
    (c ≠ .gateset → c ≠ .gateclear →
      ∀ g, (t.gate g).members = (s.gate g).members ∧ (t.gate g).timeout = (s.gate g).timeout) ∧
    (c ≠ .profile → ∀ p, (t.prof p).start = (s.prof p).start ∧ (t.prof p).cruise = (s.prof p).cruise ∧
      (t.prof p).length = (s.prof p).length) ∧
    (c = .setpos → ∀ a, a ≠ s.axsel → (t.ax a).position = (s.ax a).position) ∧
    (c ≠ .setpos → c ≠ .softreset → ∀ a,
      (t.ax a).position = (s.ax a).position ∨ (t.ax a).position = (s.ax a).position + 1 ∨
      (t.ax a).position = (s.ax a).position - 1 ∨ (t.ax a).position = 0 ∨ (t.ax a).position = 1 ∨ (t.ax a).position = -1) ∧
    (s.ReportsOrdered →
      c = .flush ∨ c = .limits ∨ c = .axconfig ∨ c = .axquery ∨ c = .profile ∨ c = .profquery ∨ c = .gateset ∨
      c = .gateclear ∨ c = .gatequery ∨ (∃ v, c = .badCommand v) ∨ c = .axpos0Read ∨ c = .rdataRead ∨
      (∃ v, c = .iflagWrite v) ∨ (∃ o v, c = .windowWrite o v) ∨ c = .resetRelease ∨ (∃ b, c = .stepHighTimeEnd b) ∨
      (∃ b k l, c = .readbackSample b k l) ∨ (∃ g, c = .gateTimerExpiry g) ∨ (∃ b, c = .trailingEdge b) ∨
      (∃ b l, c = .fltPinChange b l) ∨ (∃ b, c = .fltAssertion b) ∨ (∃ b, c = .fltDeassertion b) ∨
      c = .stopDeassertion →
      ∀ a, (t.ax a).position = (s.ax a).position)

/-- At the port and the inputs, a hardware reset apart: CRES is set by a CMD write alone, IENABLE, MODE and AXSEL by a window
write, and the snapshot by a read of AXPOS0; a flag is cleared by a 1 written to it or by a soft reset; a qualified /STOP or
/FLT level moves at its own acceptances, the one that a pin change after a whole filter time brings among them; a qualified
SENS level moves at the edges of its axis, at such a pin change or one with a filter time of 0, at an AXCONFIG of its axis that
shortens the filter, and at a soft reset; and no command touches the queue of commands
(R88, R90, R108, R114, R137, R153, R155, R160, R161, R163, R164; the queue: log 20; the acceptance inside a pin change: log 8). -/
def Obligations.PortItemsWrittenByTheirOwners : Prop :=
  ∀ (c : Instr) (s t : State), exec c s = .next t →
    t.pending = s.pending ∧
    (c ≠ .hardwareReset →
      ((∀ v, c.busBytes ≠ some (offsetCMD, v)) → t.cres = s.cres) ∧
      ((∀ o v, c ≠ .windowWrite o v) → t.ienable = s.ienable ∧ t.style = s.style ∧ t.axsel = s.axsel) ∧
      (c ≠ .axpos0Read → t.snapshot = s.snapshot) ∧
      (c ≠ .softreset → ∀ i : Fin 3, s.iflag.getLsbD i = true →
        t.iflag.getLsbD i = true ∨ ∃ v, c = .iflagWrite v ∧ v.getLsbD i = true) ∧
      (t.stop.qualified = s.stop.qualified ∨ c = .stopAssertion ∨ c = .stopDeassertion ∨
        (∃ l, c = .stopPinChange l ∧ l ≠ s.stop.pin) ∧ ∃ us, s.stop.count = some us ∧ 10 ≤ us) ∧
      (∀ a, (t.ax a).drive.flt.qualified = (s.ax a).drive.flt.qualified ∨ c = .fltAssertion a ∨ c = .fltDeassertion a ∨
        (∃ l, c = .fltPinChange a l ∧ l ≠ (s.ax a).drive.flt.pin) ∧ ∃ us, (s.ax a).drive.flt.count = some us ∧ 10 ≤ us) ∧
      (∀ a, (t.ax a).sens.qualified = (s.ax a).sens.qualified ∨ c = .leadingEdge a ∨ c = .trailingEdge a ∨
        (∃ l, c = .sensPinChange a l ∧ l ≠ (s.ax a).sens.pin) ∧
          ((s.ax a).config.filter = 0 ∨ ∃ us, (s.ax a).sens.count = some us ∧ (s.ax a).config.filter ≤ us) ∨
        (c = .axconfig ∧ s.axsel = a ∧ ∃ us, (s.ax a).sens.count = some us ∧ (t.ax a).config.filter ≤ us) ∨ c = .softreset))

/-- The parameter block is written by a window write, by the three queries, by FLUSH in PB0 alone, and by a hardware reset; a
query or a FLUSH that is refused leaves it (R157). -/
def Obligations.OnlyQueriesAndFlushWriteTheBlock : Prop :=
  ∀ (c : Instr) (s t : State), exec c s = .next t → c ≠ .hardwareReset → (∀ offset v, c ≠ .windowWrite offset v) →
    (c ≠ .axquery → c ≠ .profquery → c ≠ .gatequery → c ≠ .flush → t.block = s.block) ∧
    (c = .profquery ∨ c = .gatequery ∨ c = .axquery ∨ c = .flush → s.inReset = false → t.cres ≠ .ok → t.block = s.block) ∧
    (c = .flush → ∀ i : Fin 16, i ≠ 0 → t.block[i] = s.block[i])

/-- DISABLED is left only by AXCONFIG enabling the axis, and entered only by AXCONFIG disabling it or by a hardware reset; a
soft reset keeps it (R63, R66, R67). -/
def Obligations.DisabledChangesOnlyByAxconfig : Prop :=
  ∀ (c : Instr) (s t : State) (a : Axis), s.Shaped → exec c s = .next t → c ≠ .hardwareReset →
    ((s.ax a).mode = .disabled ↔ (t.ax a).mode = .disabled) ∨
    (c = .axconfig ∧ s.axsel = a ∧ t.cres = .ok ∧
      ((t.ax a).mode = .disabled ↔ (configOfBlock s.block).enable = false))

/-! ## The bus -/

/-- Every well-formed command that is a bus write is the command its offset and byte decode to, and every offset and byte
decode to a well-formed command that is that write; the codes of CMD are those of Table 9-2 (R152, R154, R155). -/
def Obligations.BusWritesDecodeToTheirCommands : Prop :=
  (∀ (c : Instr) (offset : Offset) (v : Byte), c.wf = true → c.busBytes = some (offset, v) → busWrite offset v = c) ∧
  (∀ (offset : Offset) (v : Byte),
    (busWrite offset v).wf = true ∧ (busWrite offset v).busBytes = some (offset, v)) ∧
  (busWrite 0x01 0x01 = .post ∧ busWrite 0x01 0x02 = .abort ∧ busWrite 0x01 0x03 = .flush ∧ busWrite 0x01 0x04 = .resume ∧
    busWrite 0x01 0x05 = .setpos ∧ busWrite 0x01 0x06 = .limits ∧ busWrite 0x01 0x07 = .axconfig ∧
    busWrite 0x01 0x08 = .axquery ∧ busWrite 0x01 0x10 = .profile ∧ busWrite 0x01 0x11 = .profquery ∧
    busWrite 0x01 0x18 = .gateset ∧ busWrite 0x01 0x19 = .gateclear ∧ busWrite 0x01 0x1A = .gatequery ∧
    busWrite 0x01 0x20 = .pop ∧ busWrite 0x01 0x30 = .haltall ∧ busWrite 0x01 0x5A = .softreset) ∧
  (∀ v : Byte,
    v ∉ [0x01, 0x02, 0x03, 0x04, 0x05, 0x06, 0x07, 0x08, 0x10, 0x11, 0x18, 0x19, 0x1A, 0x20, 0x30, 0x5A] →
      busWrite 0x01 v = .badCommand v) ∧
  (∀ (offset : Offset) (v : Byte),
    busWrite 0x04 v = .iflagWrite v ∧ (offset ≠ 0x01 → offset ≠ 0x04 → busWrite offset v = .windowWrite offset v))

/-! ## POST, ABORT, FLUSH and RESUME -/

/-- A record is malformed exactly under the conditions of R8, and POST then refuses it with BAD_PARAM on every axis that is not
DISABLED (R8). -/
def Obligations.MalformedRecordsAreThoseOfR8 : Prop :=
  ∀ s : State, s.inReset = false → (s.ax s.axsel).mode ≠ .disabled →
    let b := s.block
    let malformed :=
      ¬(b[0] = 1 ∨ b[0] = 2 ∨ b[0] = 3 ∨ b[0] = 4) ∨
      ((b[0] = 1 ∨ b[0] = 2 ∨ b[0] = 3) ∧ 7 < b[5].toNat) ∨
      7 < b[6].toNat ∨
      (b[0] = 3 ∧ moveValue b = 0) ∨
      (b[0] = 4 ∧ (moveValue b < 1 ∨ 65535 < moveValue b)) ∨
      (expectsMark b = true ∧ unsigned16 b[10] b[11] = 0) ∨
      (registers b = true ∧ expectsMark b = false) ∨
      ((expectsMark b = true ∨ registers b = true) ∧ (b[0] = 3 ∨ b[0] = 4)) ∨
      (setsZero b = true ∧ b[0] ≠ 3)
    (moveOfBlock b = none ↔ malformed) ∧
    (malformed → exec .post s = .next { s with cres := .badParam })

/-- POST makes its checks in the order of Table 1-2, and a refusal changes nothing but CRES (R6, R7). -/
def Obligations.PostRefusesInOrder : Prop :=
  ∀ s : State, s.inReset = false →
    ((s.ax s.axsel).mode = .disabled → exec .post s = .next { s with cres := .axisDisabled }) ∧
    ((s.ax s.axsel).mode ≠ .disabled →
      (moveOfBlock s.block = none → exec .post s = .next { s with cres := .badParam }) ∧
      ∀ m, moveOfBlock s.block = some m →
        (∀ g, m.gate = some g →
          ((s.gate g).members = 0 → exec .post s = .next { s with cres := .gateUnset }) ∧
          ((s.gate g).members ≠ 0 → inSet (s.gate g).members s.axsel = false →
            exec .post s = .next { s with cres := .gateMember })) ∧
        ((∀ g, m.gate = some g → inSet (s.gate g).members s.axsel = true) →
          ((s.ax s.axsel).config.quota ≤ (s.ax s.axsel).queue.length →
            exec .post s = .next { s with cres := .quotaFull }) ∧
          ((s.ax s.axsel).queue.length < (s.ax s.axsel).config.quota → s.poolFree = 0 →
            exec .post s = .next { s with cres := .poolFull })))

/-- An accepted POST takes a slot, raises the use counts and appends the move at the tail; an IDLE axis takes it at once, and
no other state does (R10, R11). -/
def Obligations.PostAppendsOrIsTaken : Prop :=
  ∀ (s : State) (m : Move), s.Accepts m →
    ((s.ax s.axsel).mode ≠ .idle →
      exec .post s = .next
        { s.allocate m with
          cres := .ok
          axes := s.axes.set s.axsel.idx
            { s.ax s.axsel with queue := (s.ax s.axsel).queue ++ [m] } }) ∧
    ((s.ax s.axsel).mode = .idle → (s.ax s.axsel).queue = [] →
      exec .post s = .next (({ s.allocate m with cres := .ok }.take s.axsel m).settle)) ∧
    (s.allocate m).poolFree = s.poolFree - 1 ∧
    (∀ p : ProfileNo, ((s.allocate m).prof p).useCount =
      (s.prof p).useCount + if m.task.profile? = some p then 1 else 0) ∧
    (∀ g : GateTag, ((s.allocate m).gate g).useCount = (s.gate g).useCount + if m.gate = some g then 1 else 0)

/-- An ungated ABSOLUTE or RELATIVE move with distance posted to an IDLE axis starts: the ramp state of R22, the first step of
R23, the window of R92, and DIR at its level at once or, while STEP is still high, as a DIR change due
(R2, R10, R39, R40, R42, R111; that the readback level follows DIR: log 6). -/
def Obligations.UngatedMoveWithDistanceStarts : Prop :=
  ∀ (s : State) (m : Move) (e : Int) (p : ProfileNo) (mark : Option MarkPart),
    s.Accepts m → s.NothingToGrant → (s.ax s.axsel).Free → m.gate = none →
    (m.task = .absolute e p mark ∨ m.task = .relative (e - (s.ax s.axsel).position) p mark) →
    (s.ax s.axsel).limitMin ≤ e → e ≤ (s.ax s.axsel).limitMax → e ≠ (s.ax s.axsel).position →
    exec .post s = .next
      { s.allocate m with
        cres := .ok
        axes := s.axes.set s.axsel.idx
          { s.ax s.axsel with
            mode := .accel
            current := some m
            plannedEnd := some e
            ramp :=
              { profile := p, k := 0, r := (e - (s.ax s.axsel).position).natAbs, stepsRun := 0
                dir := if (s.ax s.axsel).position < e then .plus else .minus
                step := some ((s.prof p).decide 0 (e - (s.ax s.axsel).position).natAbs)
                elapsed := 0 }
            mark :=
              { MarkItems.empty with
                window := if mark = none then .unarmed else if mark.any (·.start == 0) then .opened else .waiting }
            drive :=
              let d := (s.ax s.axsel).drive
              let level : Level :=
                if ((s.ax s.axsel).position < e) ↔ ((s.ax s.axsel).config.dirInverted = false) then .high else .low
              if d.stepHigh = none then { d with dir := level, dirDue := none, dirPin := level }
              else { d with dirDue := some level } } }

/-- A move whose planned end lies outside the soft limits ends at its take, which every POST, RESUME and CONTINUE path makes by
State.take: its slot returns, a gated move does not arrive, and LIMIT MIN or MAX, aux 0, is offered with the path HALTED, cause
LIMIT. Deposited at once it leaves the axis HALTED; with the Report Queue full the axis waits in REPORTING
(R13, R16, R40, R49, R50, R53, R58). -/
def Obligations.MoveOutsideLimitsEndsAtTake : Prop :=
  ∀ (s : State) (a : Axis) (m : Move) (e : Int),
    m.task.plannedEnd (s.ax a).position = some e → (e < (s.ax a).limitMin ∨ (s.ax a).limitMax < e) →
    let finding : Finding := .limit (if e < (s.ax a).limitMin then .min else .max)
    s.take a m = s.endedWaiting a m finding 0 ∧
    (∀ rest, (s.ax a).queue = m :: rest →
      s.takeNext a = (s.setAx a { s.ax a with queue := rest }).endedWaiting a m finding 0) ∧
    (s.Quiet → (s.ax a).owed = none → (s.take a m).settle = s.endedStop a m finding 0 .limit) ∧
    (a = s.axsel → s.Accepts m → (s.ax a).Free →
      (s.Clear →
        exec .post s = .next
          { s with
            cres := .ok
            iflag := s.iflag ||| flagREPORT ||| flagHALT
            reports :=
              { reports := s.reports.reports ++
                  [{ seq := s.reports.seq
                     report := { axis := a, finding := finding, tag := m.tag, position := (s.ax a).position, aux := 0 } }]
                seq := s.reports.seq + 1, last := a, pointer := s.reports.pointer }
            axes := s.axes.set a.idx { (s.ax a).clearMove with mode := .halted, cause := (s.ax a).cause.enter .limit } }) ∧
      (s.Full →
        exec .post s = .next
          { s with
            cres := .ok
            axes := s.axes.set a.idx
              { (s.ax a).clearMove with
                mode := .reporting
                offer := some
                  { report := { axis := a, finding := finding, tag := m.tag, position := (s.ax a).position, aux := 0 }
                    path := .halted .limit } } })) ∧
    (s.inReset = false → a = s.axsel → (s.ax a).mode = .halted → s.stop.qualified = .high →
      ¬((s.ax a).cause = .drive ∧ (s.ax a).drive.flt.qualified = .low) → s.Quiet → (s.ax a).owed = none →
      ((s.ax a).held = some m →
        exec .resume s = .next
          ({ s with cres := .ok, axes := s.axes.set a.idx { s.ax a with cause := .none, held := none } }.endedStop
            a m finding 0 .limit)) ∧
      (∀ rest, (s.ax a).held = none → (s.ax a).queue = m :: rest →
        exec .resume s = .next
          ({ s with cres := .ok, axes := s.axes.set a.idx { s.ax a with cause := .none, queue := rest } }.endedStop
            a m finding 0 .limit)))

/-- The starts of R42 that are no run: a DWELL loads its timer; a zero-distance move ends with DONE PLAIN or, with an
expect-mark part, MISSED END; a SEEK with its sensor active ends with DONE AT_ONCE at position 0 if set-zero asks for it; and a
SEEK with its sensor inactive runs with its edge search armed and DIR driven (R42, R102, R111; the readback level: log 6). -/
def Obligations.StartsFollowTheTable : Prop :=
  ∀ (s : State) (a : Axis) (m : Move), (s.ax a).current = some m →
    (∀ ms, m.task = .dwell ms →
      s.startMove a = s.setAx a
        { s.ax a with
          mode := .dwelling, dwell := ms * 1000
          ramp := { (s.ax a).ramp with k := 0, r := 0, stepsRun := 0, step := none, elapsed := 0 } }) ∧
    (∀ v p mark, m.task = .absolute v p mark ∨ m.task = .relative v p mark →
      (s.ax a).plannedEnd = some (s.ax a).position →
      s.startMove a = s.endMove a (if mark = none then .done .plain else .missed .planned) 0) ∧
    (∀ v p z, m.task = .seek v p z →
      ((s.ax a).sens.qualified = (s.ax a).config.activeLevel →
        s.startMove a =
          (s.setAx a { s.ax a with position := if z then 0 else (s.ax a).position }).endMove a (.done .atOnce) 0) ∧
      ((s.ax a).sens.qualified ≠ (s.ax a).config.activeLevel →
        s.startMove a = s.setAx a
          { s.ax a with
            mode := .accel
            ramp :=
              { profile := p, k := 0, r := v.natAbs, stepsRun := 0, dir := if 0 < v then .plus else .minus
                step := some ((s.prof p).decide 0 v.natAbs), elapsed := 0 }
            mark := { MarkItems.empty with search := .armed }
            drive :=
              let d := (s.ax a).drive
              let level : Level := if (0 < v) ↔ ((s.ax a).config.dirInverted = false) then .high else .low
              if d.stepHigh = none then { d with dir := level, dirDue := none, dirPin := level }
              else { d with dirDue := some level } }))

/-- A gated move posted to an IDLE axis arrives at its gate: the axis is GATED and in the arrival set, and an arrival into an
empty set starts a nonzero timeout. If the set is then the member set the gate fires, else the axis waits (R41, R74, R76;
steps run at the arrival: the model's choice, log 12). -/
def Obligations.GatedMoveArrivesAtItsGate : Prop :=
  ∀ (s : State) (m : Move) (g : GateTag),
    s.Accepts m → s.NothingToGrant → (s.ax s.axsel).Free → m.gate = some g →
    (∀ e, m.task.plannedEnd (s.ax s.axsel).position = some e →
      (s.ax s.axsel).limitMin ≤ e ∧ e ≤ (s.ax s.axsel).limitMax) →
    let q := (s.allocate m).gate g
    let arrived : State :=
      { s.allocate m with
        cres := .ok
        axes := s.axes.set s.axsel.idx
          { s.ax s.axsel with
            mode := .gated, current := some m, plannedEnd := m.task.plannedEnd (s.ax s.axsel).position
            ramp := { (s.ax s.axsel).ramp with stepsRun := 0 } }
        gates := (s.allocate m).gates.set g
          { q with
            arrivals := q.arrivals ||| axisBit s.axsel
            timer := if q.arrivals = 0 ∧ q.timeout ≠ 0 then some (q.timeout * 1000) else q.timer } }
    (q.arrivals ||| axisBit s.axsel ≠ q.members → exec .post s = .next arrived) ∧
    (q.arrivals ||| axisBit s.axsel = q.members → exec .post s = .next ((arrived.fireGate g).settle))

/-- ABORT of a running move requests a controlled stop with the intent ABORTED RUNNING: with a stopping distance the axis
enters STOPPING and the pending step is decided again, emitted at once if its new interval has passed; with none the move ends,
its report deposited at once or, with the Report Queue full, waiting in REPORTING (R28, R29, R45, R50, R145, R146). -/
def Obligations.AbortStopsARunningMove : Prop :=
  ∀ (s : State) (m : Move),
    s.inReset = false → (s.ax s.axsel).mode.running = true → (s.ax s.axsel).current = some m →
    let x := s.ax s.axsel
    let n := min x.ramp.r x.ramp.k
    let next := (s.prof x.ramp.profile).decide x.ramp.k n
    let stopping : State :=
      { s with
        cres := .ok
        axes := s.axes.set s.axsel.idx
          { x with
            mode := .stopping, intent := some (.aborted .running)
            ramp := { x.ramp with r := n, step := some next } } }
    (0 < n → s.NothingToGrant → x.ramp.elapsed < next.interval → exec .abort s = .next stopping) ∧
    (0 < n → next.interval ≤ x.ramp.elapsed → exec .abort s = .next ((stopping.pulse s.axsel).settle)) ∧
    (n = 0 → s.Quiet → x.owed = none →
      exec .abort s = .next
        ({ s with
           cres := .ok
           axes := s.axes.set s.axsel.idx { x with ramp := { x.ramp with r := 0, step := none } } }.endedStop
          s.axsel m (.aborted .running) x.ramp.stepsRun .abort))

/-- ABORT discards a gated move after its withdrawal and ends a DWELL, each with its report and HALTED with cause ABORT or, with
the Report Queue full, in REPORTING on that path; it is refused with AXIS_BUSY in STOPPING and with NO_MOVE where there is no
current move (R50, R80, R145). -/
def Obligations.AbortElsewhereFollowsItsTable : Prop :=
  ∀ s : State, s.inReset = false →
    ((s.ax s.axsel).mode = .stopping → exec .abort s = .next { s with cres := .axisBusy }) ∧
    ((s.ax s.axsel).mode = .idle ∨ (s.ax s.axsel).mode = .reporting ∨ (s.ax s.axsel).mode = .halted ∨
      (s.ax s.axsel).mode = .disabled → exec .abort s = .next { s with cres := .noMove }) ∧
    (∀ m, (s.ax s.axsel).current = some m → s.Quiet → (s.ax s.axsel).owed = none →
      ((s.ax s.axsel).mode = .dwelling →
        exec .abort s = .next ({ s with cres := .ok }.endedStop s.axsel m (.aborted .dwelling) 0 .abort)) ∧
      (∀ g, (s.ax s.axsel).mode = .gated → m.gate = some g →
        exec .abort s = .next
          ({ s with
             cres := .ok
             gates := s.gates.set g
               { s.gate g with
                 arrivals := (s.gate g).arrivals &&& ~~~(axisBit s.axsel)
                 timer := if (s.gate g).arrivals &&& ~~~(axisBit s.axsel) = 0 then none else (s.gate g).timer } }.endedStop
            s.axsel m (.aborted .gated) 0 .abort)))

/-- FLUSH discards the queue and the held move, returns their slots and use counts, and writes the number to PB0; nothing else
changes. A DISABLED axis refuses it (R18, R148). -/
def Obligations.FlushDiscardsQueueAndHeldMove : Prop :=
  ∀ s : State, s.inReset = false →
    ((s.ax s.axsel).mode = .disabled → exec .flush s = .next { s with cres := .axisDisabled }) ∧
    ((s.ax s.axsel).mode ≠ .disabled →
      let gone := (s.ax s.axsel).queue ++ (s.ax s.axsel).held.toList
      Leads (exec .flush s) fun t =>
        t = { s with
              cres := .ok
              block := s.block.set 0 (BitVec.ofNat 8 gone.length)
              poolFree := s.poolFree + gone.length
              axes := s.axes.set s.axsel.idx { s.ax s.axsel with queue := [], held := none }
              profiles := t.profiles
              gates := t.gates } ∧
        (∀ p : ProfileNo, t.prof p =
          { s.prof p with useCount := (s.prof p).useCount - gone.countP fun m => m.task.profile? == some p }) ∧
        (∀ g : GateTag, t.gate g =
          { s.gate g with useCount := (s.gate g).useCount - gone.countP fun m => m.gate == some g }))

/-- RESUME makes its checks in order, and a refused one changes nothing but CRES. An accepted one sets the halt cause to NONE,
then re-takes the held move, else takes the head of the queue, else leaves the axis IDLE (R57, R58). -/
def Obligations.ResumeFollowsItsChecks : Prop :=
  ∀ s : State, s.inReset = false →
    let x := s.ax s.axsel
    (x.mode ≠ .halted → exec .resume s = .next { s with cres := .notHalted }) ∧
    (x.mode = .halted → s.stop.qualified = .low → exec .resume s = .next { s with cres := .stopActive }) ∧
    (x.mode = .halted → s.stop.qualified = .high → x.cause = .drive ∧ x.drive.flt.qualified = .low →
      exec .resume s = .next { s with cres := .driveActive }) ∧
    (x.mode = .halted → s.stop.qualified = .high → ¬(x.cause = .drive ∧ x.drive.flt.qualified = .low) →
      (∀ m, x.held = some m →
        exec .resume s = .next
          (({ s with
              cres := .ok
              axes := s.axes.set s.axsel.idx { x with cause := .none, held := none } }.take s.axsel m).settle)) ∧
      (∀ m rest, x.held = none → x.queue = m :: rest →
        exec .resume s = .next
          (({ s with
              cres := .ok
              axes := s.axes.set s.axsel.idx { x with cause := .none, queue := rest } }.take s.axsel m).settle)) ∧
      (x.held = none → x.queue = [] → s.NothingToGrant →
        exec .resume s = .next
          { s with cres := .ok, axes := s.axes.set s.axsel.idx { x with mode := .idle, cause := .none } }))

/-! ## SETPOS, LIMITS, AXCONFIG and the queries -/

/-- SETPOS and LIMITS make their checks in order and change the position counter, or the two soft limits, alone
(R60, R61). -/
def Obligations.SetposAndLimitsWriteTheirItems : Prop :=
  ∀ s : State, s.inReset = false →
    let x := s.ax s.axsel
    let p := signed24 s.block[0] s.block[1] s.block[2]
    let lo := signed24 s.block[4] s.block[5] s.block[6]
    let hi := signed24 s.block[7] s.block[8] s.block[9]
    (x.mode.busy = true →
      exec .setpos s = .next { s with cres := .axisBusy } ∧ exec .limits s = .next { s with cres := .axisBusy }) ∧
    (x.mode.busy = false →
      (p < x.limitMin ∨ x.limitMax < p → exec .setpos s = .next { s with cres := .badParam }) ∧
      (x.limitMin ≤ p → p ≤ x.limitMax →
        exec .setpos s = .next { s with cres := .ok, axes := s.axes.set s.axsel.idx { x with position := p } }) ∧
      (hi < lo → exec .limits s = .next { s with cres := .badParam }) ∧
      (lo ≤ hi →
        exec .limits s = .next
          { s with cres := .ok, axes := s.axes.set s.axsel.idx { x with limitMin := lo, limitMax := hi } }))

/-- AXCONFIG makes its checks in order; accepted, it writes every field, moves the axis to or from DISABLED, accepts a SENS
count that is complete under the new filter time, and discards an outstanding readback sample when the axis is disabled or the
check is off. An enable that finds /STOP low halts the axis silently; one that finds /FLT low is a drive fault, reported at once
or, with the Report Queue full, pending in REPORTING (R50, R62, R63, R90, R113; of the two /STOP comes first: log 9). -/
def Obligations.AxconfigWritesTheConfiguration : Prop :=
  ∀ s : State, s.inReset = false →
    let x := s.ax s.axsel
    let c := configOfBlock s.block
    let y : AxisState :=
      { x with
        config := c
        mode := if c.enable = false then .disabled else if x.mode = .disabled then .idle else x.mode
        cause := if c.enable = false then .none else x.cause
        sens := if x.sens.due c.filter then { x.sens with qualified := x.sens.pin, count := none } else x.sens
        drive := { x.drive with sample := if c.enable = true ∧ c.readback = true then x.drive.sample else none } }
    let busy := x.mode.busy = true ∨ (x.mode = .halted ∧ ¬(x.queue = [] ∧ x.held = none))
    let legal := 1 ≤ c.quota ∧ c.quota ≤ 32
    (busy → exec .axconfig s = .next { s with cres := .axisBusy }) ∧
    (¬busy → ¬legal → exec .axconfig s = .next { s with cres := .badParam }) ∧
    (¬busy → legal → (x.mode ≠ .disabled ∨ c.enable = false) →
      exec .axconfig s = .next { s with cres := .ok, axes := s.axes.set s.axsel.idx y }) ∧
    (x.mode = .disabled → c.enable = true → legal → s.NothingToGrant →
      (s.stop.qualified = .high → x.drive.flt.qualified = .high →
        exec .axconfig s = .next { s with cres := .ok, axes := s.axes.set s.axsel.idx y }) ∧
      (s.stop.qualified = .low → x.drive.flt.qualified = .high →
        exec .axconfig s = .next
          { s with
            cres := .ok
            iflag := s.iflag ||| flagHALT
            axes := s.axes.set s.axsel.idx { y with mode := .halted, cause := x.cause.enter .stopLine } }) ∧
      (s.Clear → x.owed = none → x.drive.flt.qualified = .low →
        exec .axconfig s = .next
          { s with
            cres := .ok
            iflag := s.iflag ||| flagREPORT ||| flagHALT
            reports :=
              { s.reports with
                reports := s.reports.reports ++
                  [{ seq := s.reports.seq
                     report :=
                       { axis := s.axsel, finding := .driveFault .driverInput
                         tag := if s.stop.qualified = .low then (x.held.map (·.tag)).getD 0 else 0
                         position := x.position, aux := 0 } }]
                seq := s.reports.seq + 1, last := s.axsel }
            axes := s.axes.set s.axsel.idx { y with mode := .halted, cause := .drive } })) ∧
    (x.mode = .disabled → c.enable = true → legal → s.Full → x.drive.flt.qualified = .low →
      let stopped : Bool := s.stop.qualified == .low
      let configured : State := { s with cres := .ok, iflag := if stopped then s.iflag ||| flagHALT else s.iflag }
      exec .axconfig s = .next
        (configured.faultedWaiting s.axsel y .driverInput (if stopped then (x.held.map (·.tag)).getD 0 else 0)))

/-- The queries overwrite the parameter block with their answer, in the places that AXCONFIG, LIMITS, PROFILE and GATESET read;
a number or tag out of range is refused and leaves the block (R33, R64, R72, R159). -/
def Obligations.QueriesAnswerInTheSetPlaces : Prop :=
  ∀ s : State, s.inReset = false →
    ((s.ax s.axsel).inRange = true → (s.ax s.axsel).configLegal = true →
      Leads (exec .axquery s) fun t =>
        t = { s with cres := .ok, block := t.block } ∧
        configOfBlock t.block = (s.ax s.axsel).config ∧
        signed24 t.block[4] t.block[5] t.block[6] = (s.ax s.axsel).limitMin ∧
        signed24 t.block[7] t.block[8] t.block[9] = (s.ax s.axsel).limitMax ∧
        (∀ i : Fin 16, 10 ≤ i.val → t.block[i] = 0)) ∧
    (8 ≤ s.block[0].toNat → exec .profquery s = .next { s with cres := .badParam }) ∧
    (∀ p : ProfileNo, s.block[0].toNat = p.val →
      profileLegal (s.prof p).start (s.prof p).cruise (s.prof p).length = true → (s.prof p).useCount ≤ 32 →
      Leads (exec .profquery s) fun t =>
        t = { s with cres := .ok, block := t.block } ∧
        t.block[0] = s.block[0] ∧ unsigned16 t.block[1] t.block[2] = (s.prof p).start ∧
        unsigned16 t.block[3] t.block[4] = (s.prof p).cruise ∧ unsigned16 t.block[5] t.block[6] = (s.prof p).length ∧
        t.block[7].toNat = (s.prof p).useCount ∧ (∀ i : Fin 16, 8 ≤ i.val → t.block[i] = 0)) ∧
    (s.block[0] = 0 ∨ 8 ≤ s.block[0].toNat → exec .gatequery s = .next { s with cres := .badParam }) ∧
    (∀ g : GateTag, s.block[0].toNat = g.val + 1 →
      (s.gate g).timeout ≤ 65535 → (s.gate g).useCount ≤ 32 → (s.gate g).timer.all (fun us => 1 ≤ us ∧ us ≤ 65535000) = true →
      Leads (exec .gatequery s) fun t =>
        t = { s with cres := .ok, block := t.block } ∧
        t.block[0] = s.block[0] ∧ t.block[1].toNat = (s.gate g).members.toNat ∧
        unsigned16 t.block[2] t.block[3] = (s.gate g).timeout ∧ t.block[4].toNat = (s.gate g).arrivals.toNat ∧
        t.block[5] = (if (s.gate g).timer = none then 0 else 1) ∧
        ((s.gate g).timer = none → unsigned16 t.block[6] t.block[7] = 0) ∧
        (∀ us, (s.gate g).timer = some us → unsigned16 t.block[6] t.block[7] = (us + 999) / 1000) ∧
        t.block[8].toNat = (s.gate g).useCount ∧ (∀ i : Fin 16, 9 ≤ i.val → t.block[i] = 0))

/-! ## PROFILE, GATESET, GATECLEAR and POP -/

/-- PROFILE makes its checks in order and loads the record; the use count stays (R34). -/
def Obligations.ProfileLoadsAnUnusedRecord : Prop :=
  ∀ s : State, s.inReset = false →
    let start := unsigned16 s.block[1] s.block[2]
    let cruise := unsigned16 s.block[3] s.block[4]
    let length := unsigned16 s.block[5] s.block[6]
    (7 < s.block[0].toNat → exec .profile s = .next { s with cres := .badParam }) ∧
    (start < 50 ∨ cruise < 50 ∨ start < cruise ∨ 4095 < length → exec .profile s = .next { s with cres := .badParam }) ∧
    (∀ p : ProfileNo, s.block[0].toNat = p.val → 50 ≤ cruise → cruise ≤ start → length ≤ 4095 →
      ((s.prof p).useCount ≠ 0 → exec .profile s = .next { s with cres := .profileInUse }) ∧
      ((s.prof p).useCount = 0 →
        exec .profile s = .next
          { s with
            cres := .ok
            profiles := s.profiles.set p { start := start, cruise := cruise, length := length, useCount := 0 } }))

/-- GATESET and GATECLEAR make their checks in order and write the member set and the timeout alone (R70, R71). -/
def Obligations.GateSetupNeedsAnUnusedGate : Prop :=
  ∀ s : State, s.inReset = false →
    (s.block[0] = 0 ∨ 7 < s.block[0].toNat →
      exec .gateset s = .next { s with cres := .badParam } ∧ exec .gateclear s = .next { s with cres := .badParam }) ∧
    (∀ g : GateTag, s.block[0].toNat = g.val + 1 →
      (s.block[1] = 0 ∨ 15 < s.block[1].toNat → exec .gateset s = .next { s with cres := .badParam }) ∧
      (1 ≤ s.block[1].toNat → s.block[1].toNat ≤ 15 →
        ((s.gate g).useCount ≠ 0 → exec .gateset s = .next { s with cres := .gateInUse }) ∧
        ((s.gate g).useCount = 0 →
          exec .gateset s = .next
            { s with
              cres := .ok
              gates := s.gates.set g
                { s.gate g with
                  members := BitVec.ofNat 4 s.block[1].toNat
                  timeout := s.block[2].toNat + 256 * s.block[3].toNat } })) ∧
      ((s.gate g).useCount ≠ 0 → exec .gateclear s = .next { s with cres := .gateInUse }) ∧
      ((s.gate g).useCount = 0 →
        exec .gateclear s = .next
          { s with cres := .ok, gates := s.gates.set g { s.gate g with members := 0, timeout := 0 } }))

/-- POP is refused with the list empty; else it removes the head and sets the read pointer to 0, and with no axis waiting
changes nothing more (R133, R134). -/
def Obligations.PopRemovesTheHead : Prop :=
  ∀ s : State, s.inReset = false →
    (s.reports.reports = [] → exec .pop s = .next { s with cres := .queueEmpty }) ∧
    (∀ d rest, s.reports.reports = d :: rest → s.NoOffers →
      exec .pop s = .next { s with cres := .ok, reports := { s.reports with reports := rest, pointer := 0 } })

/-- The place that POP frees, or that a PLACE_GRANTED finds free, goes to the first waiting axis in the cyclic order from the
last depositor: its report is deposited with the next sequence number, and it follows its path, or waits again with the
DRIVEFAULT it owes (R51, R52, R126, R128, R129, R133). That PLACE_GRANTED finds a free place beside a waiting axis is a state
no run reaches: the model's choice, log 7. -/
def Obligations.FreedPlaceIsGrantedInTurn : Prop :=
  ∀ (s freed : State) (c : Instr) (a : Axis) (o : Offer),
    s.inReset = false →
    (c = .pop ∧ (∃ d, s.reports.reports = d :: freed.reports.reports) ∧
        freed = { s with
          cres := .ok, reports := { s.reports with reports := freed.reports.reports, pointer := 0 } } ∨
      c = .placeGranted ∧ freed = s) →
    freed.reports.reports.length = 15 →
    (arbiterOrder s.reports.last).find? (fun b => (s.ax b).offer.isSome) = some a → (s.ax a).offer = some o →
    let granted : State :=
      { freed with
        iflag := s.iflag ||| flagREPORT
        reports :=
          { freed.reports with
            reports := freed.reports.reports ++ [{ seq := s.reports.seq, report := o.report }]
            seq := s.reports.seq + 1, last := o.report.axis }
        axes := s.axes.set a.idx { s.ax a with offer := none } }
    (∀ cause, (s.ax a).owed = none → o.path = .halted cause →
      exec c s = .next
        { granted with
          iflag := s.iflag ||| flagREPORT ||| flagHALT
          axes := s.axes.set a.idx
            { s.ax a with offer := none, mode := .halted, cause := (s.ax a).cause.enter cause } }) ∧
    ((s.ax a).owed = none → o.path = .cont → exec c s = .next (granted.takeNext a)) ∧
    (∀ detail, (s.ax a).owed = some detail →
      exec c s = .next
        { granted with
          axes := s.axes.set a.idx
            { s.ax a with
              mode := .reporting, owed := none
              offer := some
                { report :=
                    { axis := a, finding := .driveFault detail, tag := 0, position := (s.ax a).position, aux := 0 }
                  path := .halted .drive } } })

/-! ## Stops and resets -/

/-- HALTALL and a /STOP assertion reach every axis by its state: IDLE and GATED axes enter HALTED silently, a gated move is held;
a running move stops by the stop style: at once, or under control, with the pulse of a new interval that has passed emitted at
once, and the move ended where its stopping distance is 0 or that pulse is its last; a DWELL ends; a REPORTING axis keeps its
report and is HALTED after it; STOPPING, HALTED and DISABLED axes stay as they are. The reports take the free places in the
arbiter's order, and the axes left over wait in REPORTING with the path HALTED. The queues stay, and no gate is left with an
arrival (R13, R28, R29, R50, R81, R127, R128, R137 to R143). -/
def Obligations.StopsReachEveryAxis : Prop :=
  ∀ (s : State) (c : Instr) (source : StopSource),
    s.inReset = false → s.NothingToGrant → s.Shaped → s.ArrivalsExact →
    (c = .haltall ∧ source = .command ∨ c = .stopAssertion ∧ source = .line ∧ s.stop.counting .low = true) →
    let cause : HaltCause := if source = .line then .stopLine else .stopCmd
    let n := fun a => min (s.ax a).ramp.r (s.ax a).ramp.k
    let step := fun a => (s.prof (s.ax a).ramp.profile).decide (s.ax a).ramp.k (n a)
    let late := fun a => decide ((step a).interval ≤ (s.ax a).ramp.elapsed)
    let slowed := fun a => (s.ax a).mode.running && s.style == .controlled
    let stopping := fun a : Axis =>
      { s.ax a with
        mode := .stopping, intent := some (.stopped source)
        ramp := { (s.ax a).ramp with r := n a, step := some (step a) } }
    let pulsed := fun a => (stopping a).emit (step a)
    let ends := fun a =>
      (s.ax a).mode == .dwelling || (s.ax a).mode.running && s.style == .immediate || slowed a && n a == 0 ||
        slowed a && n a == 1 && late a
    let final := fun a : Axis =>
      if slowed a then if n a = 0 then { s.ax a with ramp := { (s.ax a).ramp with r := 0 } } else pulsed a else s.ax a
    let report := fun a : Axis =>
      ({ axis := a, finding := .stopped source, tag := ((s.ax a).current.map (·.tag)).getD 0
         position := (final a).position
         aux := if (s.ax a).mode = .dwelling then 0 else (final a).ramp.stepsRun } : Report)
    let gone := (Axis.all.filter ends).filterMap fun a => (s.ax a).current
    Leads (exec c s) fun t =>
      t = { s with
            axes := t.axes, gates := t.gates, profiles := t.profiles, iflag := t.iflag
            poolFree := s.poolFree + gone.length
            reports := s.deposited (s.granted ends) report
            cres := if c = .haltall then .ok else s.cres
            stop := if c = .haltall then s.stop else { s.stop with qualified := .low, count := none } } ∧
      (t.iflag.getLsbD 0 = true ↔ s.iflag.getLsbD 0 = true ∨ s.granted ends ≠ []) ∧
      (t.iflag.getLsbD 1 = true ↔
        s.iflag.getLsbD 1 = true ∨ s.granted ends ≠ [] ∨ ∃ a ∈ Axis.all, (s.ax a).mode = .idle ∨ (s.ax a).mode = .gated) ∧
      (t.iflag.getLsbD 2 = true ↔ s.iflag.getLsbD 2 = true ∨ c = .stopAssertion) ∧
      (∀ p : ProfileNo, t.prof p =
        { s.prof p with useCount := (s.prof p).useCount - gone.countP fun m => m.task.profile? == some p }) ∧
      (∀ g : GateTag, t.gate g =
        { s.gate g with
          arrivals := 0, timer := if (s.gate g).arrivals = 0 then (s.gate g).timer else none
          useCount := (s.gate g).useCount - gone.countP fun m => m.gate == some g }) ∧
      ∀ a ∈ Axis.all,
        let x := s.ax a
        (x.mode = .disabled ∨ x.mode = .stopping ∨ x.mode = .halted → t.ax a = x) ∧
        (x.mode = .idle → t.ax a = { x with mode := .halted, cause := cause }) ∧
        (x.mode = .gated →
          t.ax a = { x with mode := .halted, cause := cause, held := x.current, current := none, plannedEnd := none }) ∧
        (∀ o, x.mode = .reporting → x.offer = some o →
          t.ax a = { x with offer := some { o with path := if o.path = .cont then .halted cause else o.path } }) ∧
        (a ∈ s.granted ends → t.ax a = { (final a).clearMove with mode := .halted, cause := cause }) ∧
        (a ∈ s.ungranted ends →
          t.ax a =
            { (final a).clearMove with
              mode := .reporting, offer := some { report := report a, path := .halted cause } }) ∧
        (slowed a = true → 0 < n a → late a = false → t.ax a = stopping a) ∧
        (slowed a = true → 2 ≤ n a → late a = true →
          t.ax a =
            { pulsed a with
              ramp :=
                { (pulsed a).ramp with
                  step := some ((s.prof x.ramp.profile).decide (pulsed a).ramp.k (pulsed a).ramp.r) } })

/-- SOFTRESET clears the moves, reports, arrivals, use counts and flags and keeps the setup, then examines the qualified levels:
an enabled axis with /FLT asserted reports DRIVEFAULT with tag 0 and is HALTED with cause DRIVE, the reports standing from
sequence 0 in the order A to D; with /STOP asserted every other enabled axis is HALTED with cause STOP_LINE and STOPIN is
latched; with both deasserted the enabled axes are IDLE and IFLAG is 00h. SENS is compared with the inactive level from that
instant, at which a filter time of 0 accepts an active pin
(R19, R36, R67, R86, R88, R108, R121, R136, R151, R165; that this stands inside SOFTRESET: log 8). -/
def Obligations.SoftresetKeepsTheSetup : Prop :=
  ∀ s : State, s.inReset = false →
    let faulty := Axis.all.filter fun a => (s.ax a).mode != .disabled && (s.ax a).drive.flt.qualified == .low
    Leads (exec .softreset s) fun t =>
      t.poolFree = 32 ∧ t.cres = .ok ∧
      t.reports =
        { reports := faulty.zipIdx.map fun (a, i) =>
            { seq := BitVec.ofNat 8 i
              report := { axis := a, finding := .driveFault .driverInput, tag := 0, position := 0, aux := 0 } }
          seq := BitVec.ofNat 8 faulty.length, last := faulty.getLastD .D, pointer := 0 } ∧
      t.stop = s.stop ∧ t.style = s.style ∧ t.block = s.block ∧ t.axsel = s.axsel ∧ t.snapshot = s.snapshot ∧
      t.ienable = s.ienable ∧ t.inReset = false ∧
      (∀ p : ProfileNo, t.prof p = { s.prof p with useCount := 0 }) ∧
      (∀ g : GateTag, t.gate g = { s.gate g with arrivals := 0, timer := none, useCount := 0 }) ∧
      (∀ a ∈ Axis.all,
        (t.ax a).moves = [] ∧ (t.ax a).offer = none ∧ (t.ax a).owed = none ∧ (t.ax a).intent = none ∧
        (t.ax a).plannedEnd = none ∧
        (t.ax a).position = 0 ∧ (t.ax a).limitMin = (s.ax a).limitMin ∧ (t.ax a).limitMax = (s.ax a).limitMax ∧
        (t.ax a).config = (s.ax a).config ∧ (t.ax a).ramp.k = 0 ∧ (t.ax a).ramp.r = 0 ∧ (t.ax a).ramp.stepsRun = 0 ∧
        (t.ax a).ramp.step = none ∧ (t.ax a).dwell = 0 ∧ (t.ax a).mark = MarkItems.empty ∧
        (t.ax a).sens =
          (if (s.ax a).sens.pin = (s.ax a).config.activeLevel ∧ (s.ax a).config.filter ≠ 0 then
            { pin := (s.ax a).sens.pin, qualified := otherLevel (s.ax a).config.activeLevel, count := some 0 }
          else { pin := (s.ax a).sens.pin, qualified := (s.ax a).sens.pin, count := none }) ∧
        (t.ax a).drive.step = .low ∧ (t.ax a).drive.dir = .low ∧ (t.ax a).drive.dirDue = none ∧
        (t.ax a).drive.sample = none ∧ (t.ax a).drive.flt = (s.ax a).drive.flt ∧
        ((s.ax a).mode = .disabled → (t.ax a).mode = .disabled ∧ (t.ax a).cause = .none) ∧
        (a ∈ faulty → (t.ax a).mode = .halted ∧ (t.ax a).cause = .drive ∧ (t.ax a).ena = false) ∧
        ((s.ax a).mode ≠ .disabled → a ∉ faulty → s.stop.qualified = .high →
          (t.ax a).mode = .idle ∧ (t.ax a).cause = .none) ∧
        ((s.ax a).mode ≠ .disabled → a ∉ faulty → s.stop.qualified = .low →
          (t.ax a).mode = .halted ∧ (t.ax a).cause = .stopLine)) ∧
      (t.iflag.getLsbD 0 = true ↔ faulty ≠ []) ∧
      (t.iflag.getLsbD 1 = true ↔ faulty ≠ [] ∨ s.stop.qualified = .low ∧ ∃ a ∈ Axis.all, (s.ax a).mode ≠ .disabled) ∧
      (t.iflag.getLsbD 2 = true ↔ s.stop.qualified = .low)

/-- /RESET going low puts every block at its reset values and holds it there, the pins keeping the levels they show; returning
high, it starts every filter whose pin differs from its qualified level and changes nothing else (R166). The model's choices:
the pins (log 4, log 13), the queue of commands and the count of free choices kept (log 20, log 3), and inside the reset values
the readback levels (log 6), dataOut (log 10) and the ramp's direction and profile (log 11). -/
def Obligations.HardwareResetHoldsThenReleases : Prop :=
  ∀ s : State,
    Leads (exec .hardwareReset s) (fun t =>
      t = { State.reset with
            inReset := true, axes := t.axes, stop := { State.reset.stop with pin := s.stop.pin }
            choices := s.choices, pending := s.pending } ∧
      ∀ a ∈ Axis.all, t.ax a =
        { AxisState.reset with
          sens := { pin := (s.ax a).sens.pin, qualified := .low, count := none }
          drive :=
            { AxisState.reset.drive with
              flt := { pin := (s.ax a).drive.flt.pin, qualified := .high, count := none } } }) ∧
    (s.inReset = false → exec .resetRelease s = .next s) ∧
    (s.inReset = true →
      Leads (exec .resetRelease s) fun t =>
        t = { s with inReset := false, axes := t.axes, stop := t.stop } ∧
        t.stop = { s.stop with count := if s.stop.pin = s.stop.qualified then none else some 0 } ∧
        ∀ a ∈ Axis.all, t.ax a =
          { s.ax a with
            sens :=
              { (s.ax a).sens with
                count := if (s.ax a).sens.pin = (s.ax a).sens.qualified then none else some 0 }
            drive :=
              { (s.ax a).drive with
                flt :=
                  { (s.ax a).drive.flt with
                    count := if (s.ax a).drive.flt.pin = (s.ax a).drive.flt.qualified then none else some 0 } } })

/-! ## Accesses to the port -/

/-- An unknown code sets CRES and nothing else; a write to IFLAG clears the flags written 1; a window write stores IENABLE,
AXSEL, MODE or a byte of PB, and a write to a read-only location is ignored (R152, R153, R154, R157, R160, R163, R164). -/
def Obligations.PortWritesChangeOnlyTheirLocation : Prop :=
  ∀ (s : State) (v : Byte) (offset : Offset), s.inReset = false →
    (v ∉ commandCodes → exec (.badCommand v) s = .next { s with cres := .badCommand }) ∧
    exec (.iflagWrite v) s = .next { s with iflag := s.iflag &&& ~~~(v.extractLsb' 0 3) } ∧
    exec (.windowWrite 0x05 v) s = .next { s with ienable := v.extractLsb' 0 3 } ∧
    (∀ a : Axis, v.toNat = a.idx.val → exec (.windowWrite 0x06 v) s = .next { s with axsel := a }) ∧
    (3 < v.toNat → exec (.windowWrite 0x06 v) s = .next s) ∧
    exec (.windowWrite 0x0F v) s = .next { s with style := if v.getLsbD 0 then .immediate else .controlled } ∧
    (∀ i : Fin 16, exec (.windowWrite (BitVec.ofNat 5 (16 + i.val)) v) s = .next { s with block := s.block.set i v }) ∧
    (offset.toNat < 16 → offset ∉ [0x01, 0x04, 0x05, 0x06, 0x0F] → exec (.windowWrite offset v) s = .next s)

/-- A read of AXPOS0 latches the selected axis's counter into the snapshot and returns its low byte; a read of RDATA returns
byte p of the head and advances p, from 10 to 0, or 00h with the list empty. Neither changes anything else, dataOut apart
(log 10). The kind and detail bytes are the codes of Table 7-2 (R123, R131, R132, R161). -/
def Obligations.PortReadsLatchAndAdvance : Prop :=
  ∀ s : State, s.inReset = false →
    exec .axpos0Read s = .next
      { s with
        snapshot := BitVec.ofInt 24 (s.ax s.axsel).position
        dataOut := (BitVec.ofInt 24 (s.ax s.axsel).position).extractLsb' 0 8 } ∧
    (s.reports.reports = [] → exec .rdataRead s = .next { s with dataOut := 0 }) ∧
    (∀ d rest, s.reports.reports = d :: rest → s.reports.pointer ≤ 10 →
      exec .rdataRead s = .next
        { s with
          dataOut :=
            ([d.seq, BitVec.ofNat 8 d.report.axis.idx, d.report.finding.kindCode, d.report.finding.detailCode,
              d.report.tag, (BitVec.ofInt 24 d.report.position).extractLsb' 0 8,
              (BitVec.ofInt 24 d.report.position).extractLsb' 8 8, (BitVec.ofInt 24 d.report.position).extractLsb' 16 8,
              BitVec.ofNat 8 d.report.aux, BitVec.ofNat 8 (d.report.aux / 256),
              BitVec.ofNat 8 (d.report.aux / 65536)].getD s.reports.pointer 0)
          reports := { s.reports with pointer := (s.reports.pointer + 1) % 11 } }) ∧
    ([Finding.done .plain, .done .mark, .done .markOpen, .done .regClamped, .done .edge, .done .atOnce, .short,
        .missed .closed, .missed .planned, .seekfail, .limit .min, .limit .max, .aborted .running, .aborted .gated,
        .aborted .dwelling, .stopped .line, .stopped .command, .driveFault .driverInput, .driveFault .readbackStep,
        .driveFault .readbackDir].map fun f => (f.kindCode, f.detailCode)) =
      [(0x01, 0x00), (0x01, 0x01), (0x01, 0x02), (0x01, 0x03), (0x01, 0x04), (0x01, 0x05), (0x02, 0x00),
        (0x03, 0x01), (0x03, 0x02), (0x04, 0x00), (0x05, 0x01), (0x05, 0x02), (0x06, 0x01), (0x06, 0x02),
        (0x06, 0x03), (0x07, 0x01), (0x07, 0x02), (0x08, 0x01), (0x08, 0x02), (0x08, 0x03)] ∧
    (∀ g : GateTag,
      (Finding.gateTimeout g).kindCode = 0x09 ∧ (Finding.gateTimeout g).detailCode.toNat = g.val + 1)

/-! ## Pulses, dwells and readback -/

/-- A pulse that is not the move's last counts the position, r, steps run and k by the step's class, shows the class in the
state, and decides the next step; STEP goes high and, with the check on, the readback sample becomes outstanding with the DIR
level of the pulse; a window opens at its start, and one that closes without a mark requests the controlled stop for MISSED
CLOSED, which ends the move at once where k is 0. In STOPPING the Mark Unit is frozen
(R23, R24, R26, R92, R95, R97, R106, R110, R113; a pulse with STEP still high: the model's choice, log 14; the readback levels:
log 6). -/
def Obligations.PulseCountsAndDecidesTheNextStep : Prop :=
  ∀ (s : State) (a : Axis) (m : Move) (st : PendingStep),
    s.inReset = false → s.NothingToGrant → (s.ax a).current = some m → (s.ax a).ramp.step = some st → 2 ≤ (s.ax a).ramp.r →
    ((s.ax a).mode.running = true ∧ (s.ax a).mark.window ≠ .closed ∨ (s.ax a).mode = .stopping) →
    let x := s.ax a
    let p := s.prof x.ramp.profile
    let n := x.ramp.stepsRun + 1
    let k := match st.cls with | .accel => x.ramp.k + 1 | .cruise => x.ramp.k | .decel => x.ramp.r - 1
    let closes := x.mode ≠ .stopping ∧ x.mark.window = .opened ∧
      m.task.mark?.any (fun w => n == w.start + w.length) = true
    let opens := x.mode ≠ .stopping ∧ x.mark.window = .waiting ∧ m.task.mark?.any (fun w => n == w.start) = true
    let pulsed : AxisState :=
      { x with
        position := x.position + (if x.ramp.dir = .plus then 1 else -1)
        mark :=
          { x.mark with
            widthCount :=
              if x.mode ≠ .stopping ∧ x.mark.width = .counting then x.mark.widthCount + 1 else x.mark.widthCount
            window := if closes then .closed else if opens then .opened else x.mark.window }
        drive :=
          let dir := if x.drive.stepHigh = none then x.drive.dir else x.drive.dirDue.getD x.drive.dir
          { x.drive with
            stepHigh := some 0, stepPin := .high, dir := dir
            dirDue := if x.drive.stepHigh = none then x.drive.dirDue else none
            dirPin := if x.drive.stepHigh = none then x.drive.dirPin else x.drive.dirDue.getD x.drive.dirPin
            sample := if x.config.readback = true then some { elapsed := 0, dir := dir } else none } }
    (¬closes →
      exec (.stepPulse a) s = .next (s.setAx a
        { pulsed with
          mode := if x.mode = .stopping then .stopping else st.cls.mode
          ramp :=
            { x.ramp with
              k := k, r := x.ramp.r - 1, stepsRun := n, step := some (p.decide k (x.ramp.r - 1)), elapsed := 0 } })) ∧
    (closes → 0 < k →
      exec (.stepPulse a) s = .next (s.setAx a
        { pulsed with
          mode := .stopping, intent := some (.missed .closed)
          ramp :=
            { x.ramp with
              k := k, r := min (x.ramp.r - 1) k, stepsRun := n
              step := some (p.decide k (min (x.ramp.r - 1) k)), elapsed := 0 } })) ∧
    (closes → k = 0 → s.Quiet → x.owed = none →
      exec (.stepPulse a) s = .next
        ((s.setAx a { pulsed with ramp := { x.ramp with k := 0, r := 0, stepsRun := n, step := none, elapsed := 0 } }).endedStop
          a m (.missed .closed) n .missed))

/-- The pulse that brings r to 0 ends the move: with the stop intent's report in STOPPING, else as its kind and its window give:
DONE PLAIN, MISSED END for a window not left by a mark, the report of Table 5-3 for a mark found, SEEKFAIL for an edge not found
and DONE EDGE for one found. With the Report Queue full the axis waits in REPORTING with that report
(R24, R44, R45, R47, R50, R96, R98, R104). -/
def Obligations.LastPulseEndsTheMove : Prop :=
  ∀ (s : State) (a : Axis) (m : Move) (st : PendingStep),
    (s.ax a).owed = none → (s.ax a).current = some m → (s.ax a).ramp.step = some st → (s.ax a).ramp.r = 1 →
    let pulsed := s.setAx a ((s.ax a).emit st)
    let n := (s.ax a).ramp.stepsRun + 1
    let μ := ((s.ax a).emit st).mark
    (s.Clear →
      (∀ finding cause, (s.ax a).mode = .stopping → (s.ax a).intent = some finding → finding.path = .halted cause →
        exec (.stepPulse a) s = .next (pulsed.endedHalted a m finding n cause)) ∧
      ((s.ax a).mode.running = true →
        (∀ v p, m.task = .absolute v p none ∨ m.task = .relative v p none →
          exec (.stepPulse a) s = .next (pulsed.endedContinue a m (.done .plain) 0)) ∧
        (∀ v p w, m.task = .absolute v p (some w) ∨ m.task = .relative v p (some w) →
          ((s.ax a).mark.window = .waiting ∨ (s.ax a).mark.window = .opened →
            exec (.stepPulse a) s = .next (pulsed.endedHalted a m (.missed .planned) n .missed)) ∧
          ((s.ax a).mark.window = .found →
            exec (.stepPulse a) s = .next (pulsed.endedContinue a m (μ.finding n).1 (μ.finding n).2))) ∧
        (∀ v p z, m.task = .seek v p z →
          ((s.ax a).mark.search = .armed →
            exec (.stepPulse a) s = .next (pulsed.endedHalted a m .seekfail n .seekfail)) ∧
          ((s.ax a).mark.search = .found →
            exec (.stepPulse a) s = .next (pulsed.endedContinue a m (.done .edge) (s.ax a).mark.edgeSteps))))) ∧
    (s.Full →
      (∀ finding, (s.ax a).mode = .stopping → (s.ax a).intent = some finding →
        exec (.stepPulse a) s = .next (pulsed.endedWaiting a m finding n)) ∧
      ((s.ax a).mode.running = true →
        (∀ v p, m.task = .absolute v p none ∨ m.task = .relative v p none →
          exec (.stepPulse a) s = .next (pulsed.endedWaiting a m (.done .plain) 0)) ∧
        (∀ v p w, m.task = .absolute v p (some w) ∨ m.task = .relative v p (some w) →
          ((s.ax a).mark.window = .waiting ∨ (s.ax a).mark.window = .opened →
            exec (.stepPulse a) s = .next (pulsed.endedWaiting a m (.missed .planned) n)) ∧
          ((s.ax a).mark.window = .found →
            exec (.stepPulse a) s = .next (pulsed.endedWaiting a m (μ.finding n).1 (μ.finding n).2))) ∧
        (∀ v p z, m.task = .seek v p z →
          ((s.ax a).mark.search = .armed →
            exec (.stepPulse a) s = .next (pulsed.endedWaiting a m .seekfail n)) ∧
          ((s.ax a).mark.search = .found →
            exec (.stepPulse a) s = .next (pulsed.endedWaiting a m (.done .edge) (s.ax a).mark.edgeSteps)))))

/-- The report of a mark move at its planned end follows Table 5-3, the first matching row (R98). -/
def Obligations.MarkReportsFollowTable53 : Prop :=
  ∀ (μ : MarkItems) (n : Nat),
    (μ.window = .waiting ∨ μ.window = .opened → μ.finding n = (.missed .planned, n)) ∧
    (μ.window = .found →
      (∀ overshoot, μ.registration = .short overshoot → μ.finding n = (.short, overshoot)) ∧
      ((∀ overshoot, μ.registration ≠ .short overshoot) →
        (μ.width = .counting → μ.finding n = (.done .markOpen, 0)) ∧
        (μ.width = .ended → μ.registration = .clamped → μ.finding n = (.done .regClamped, μ.widthCount)) ∧
        (μ.width = .ended → μ.registration ≠ .clamped → μ.finding n = (.done .mark, μ.widthCount))))

/-- The intervals of R21 on a legal profile, with what R21 reads off the formula, and the step of R23: its class, its interval
and its change to k, a DECEL interval being a ramp interval and k staying within the ramp length (R21, R23). -/
def Obligations.StepsFollowTheRamp : Prop :=
  ∀ (p : Profile) (i j k r : Nat), profileLegal p.start p.cruise p.length = true → i ≤ j →
    (i < p.length → p.interval i = p.start - i * (p.start - p.cruise) / p.length) ∧
    (p.length ≤ i → p.interval i = p.cruise) ∧
    (1 ≤ p.length → p.interval 0 = p.start) ∧
    p.interval j ≤ p.interval i ∧
    (i < p.length → p.cruise < p.start → p.cruise < p.interval i) ∧
    (p.cruise ≤ p.interval i ∧ p.interval i ≤ p.start ∧ 50 ≤ p.interval i) ∧
    (1 ≤ r → k ≤ p.length →
      let step := p.decide k r
      (r ≤ k → step = { cls := .decel, interval := p.interval (r - 1) } ∧ r - 1 < p.length ∧
        step.cls.nextK k r = r - 1) ∧
      (k < r → k < p.length → step = { cls := .accel, interval := p.interval k } ∧ step.cls.nextK k r = k + 1) ∧
      (k < r → k = p.length → step = { cls := .cruise, interval := p.cruise } ∧ step.cls.nextK k r = k) ∧
      step.cls.nextK k r ≤ p.length ∧
      (p.length = 0 → step = { cls := .cruise, interval := p.cruise } ∧ step.cls.nextK k r = 0))

/-- At the end of the high time STEP returns low and a DIR change due is applied; a readback sample that shows STEP high and
DIR as driven for its pulse gives no fault; one that does not is a drive fault with its READBACK detail, taken in the state
that the axis is in at the sample: a running, stopping or dwelling move ends where it stands, a gated one is withdrawn and held,
IDLE and HALTED axes report for the fault alone, a REPORTING axis owes the report, and a DISABLED one takes none. With the
Report Queue full the axis waits in REPORTING, its DRIVEFAULT pending (R50, R54, R55, R82, R110, R111, R113, R115 to R118; where the levels read come from: log 6). -/
def Obligations.HighTimeAndSampleFollowThePulse : Prop :=
  ∀ (s : State) (a : Axis) (step dir : Level), s.inReset = false →
    ((s.ax a).drive.stepHigh ≠ none →
      Leads (exec (.stepHighTimeEnd a) s) fun t =>
        t = s.setAx a (t.ax a) ∧ t.ax a = { s.ax a with drive := (t.ax a).drive } ∧
        (t.ax a).drive =
          { (s.ax a).drive with
            stepHigh := none, stepPin := .low, dirDue := none
            dir := (s.ax a).drive.dirDue.getD (s.ax a).drive.dir
            dirPin := (s.ax a).drive.dirDue.getD (s.ax a).drive.dirPin }) ∧
    (∀ q, (s.ax a).drive.sample = some q →
      let read : State :=
        s.setAx a { s.ax a with drive := { (s.ax a).drive with stepPin := step, dirPin := dir, sample := none } }
      (step = .high → dir = q.dir → exec (.readbackSample a step dir) s = .next read) ∧
      (∀ detail : DriveDetail,
        (step = .low ∧ detail = .readbackStep ∨ step = .high ∧ dir ≠ q.dir ∧ detail = .readbackDir) →
        let x := s.ax a
        let y := read.ax a
        let faulty := read.setAx a { y with cause := .drive }
        (x.mode = .disabled → s.NothingToGrant → exec (.readbackSample a step dir) s = .next read) ∧
        (x.mode = .reporting → s.reports.reports.length = 16 →
          exec (.readbackSample a step dir) s = .next
            (read.setAx a { y with cause := .drive, owed := some (x.owed.getD detail) })) ∧
        (s.Quiet → x.owed = none →
          (∀ m, x.current = some m →
            (x.mode.running = true ∨ x.mode = .stopping →
              exec (.readbackSample a step dir) s = .next
                (faulty.endedStop a m (.driveFault detail) x.ramp.stepsRun .drive)) ∧
            (x.mode = .dwelling →
              exec (.readbackSample a step dir) s = .next (faulty.endedStop a m (.driveFault detail) 0 .drive)) ∧
            (∀ g, x.mode = .gated → m.gate = some g →
              exec (.readbackSample a step dir) s = .next
                ({ read with
                   gates := s.gates.set g
                     { s.gate g with
                       arrivals := (s.gate g).arrivals &&& ~~~(axisBit a)
                       timer := if (s.gate g).arrivals &&& ~~~(axisBit a) = 0 then none else (s.gate g).timer } }.faulted
                  a { y with held := some m, current := none, plannedEnd := none } detail m.tag))) ∧
          (x.mode = .idle → exec (.readbackSample a step dir) s = .next (read.faulted a y detail 0)) ∧
          (x.mode = .halted →
            exec (.readbackSample a step dir) s = .next
              (read.faulted a y detail ((x.held.map (·.tag)).getD 0))))))

/-- The expiry of a dwell timer ends the DWELL with DONE PLAIN, aux 0, and the axis goes on with its queue; with the Report
Queue full it waits in REPORTING with path CONTINUE (R31, R46, R47, R50). -/
def Obligations.DwellExpiryReportsDone : Prop :=
  ∀ (s : State) (a : Axis) (m : Move), (s.ax a).mode = .dwelling → (s.ax a).current = some m → (s.ax a).owed = none →
    (s.Clear → exec (.dwellExpiry a) s = .next (s.endedContinue a m (.done .plain) 0)) ∧
    (s.Full → exec (.dwellExpiry a) s = .next (s.endedWaiting a m (.done .plain) 0))

/-! ## Gates and the arbiter -/

/-- The expiry of a gate's timer holds the move of every waiting axis and reports GATE_TIMEOUT with the gate's tag, and with
the arrival set at the expiry as aux; the slots and use counts stay, and the other axes are not reached. The reports take the
free places in the arbiter's order, and the axes left over wait in REPORTING (R17, R50, R78, R127, R128). -/
def Obligations.GateTimeoutHoldsEveryWaitingMove : Prop :=
  ∀ (s : State) (g : GateTag),
    s.inReset = false → s.NothingToGrant → s.Shaped → s.ArrivalsExact → (s.gate g).timer ≠ none →
    let waits := inSet (s.gate g).arrivals
    let report := fun a : Axis =>
      ({ axis := a, finding := .gateTimeout g, tag := ((s.ax a).current.map (·.tag)).getD 0, position := (s.ax a).position
         aux := (s.gate g).arrivals.toNat } : Report)
    Leads (exec (.gateTimerExpiry g) s) fun t =>
      t = { s with
            axes := t.axes
            reports := s.deposited (s.granted waits) report
            iflag := if s.granted waits = [] then s.iflag else s.iflag ||| flagREPORT ||| flagHALT
            gates := s.gates.set g { s.gate g with arrivals := 0, timer := none } } ∧
      ∀ a ∈ Axis.all,
        let held := { s.ax a with held := (s.ax a).current, current := none, plannedEnd := none }
        (waits a = false → t.ax a = s.ax a) ∧
        (a ∈ s.granted waits → t.ax a = { held with mode := .halted, cause := .gateTimeout }) ∧
        (a ∈ s.ungranted waits →
          t.ax a =
            { held with mode := .reporting, offer := some { report := report a, path := .halted .gateTimeout } })

/-- A gate whose arrival set is its member set fires: the set becomes empty, the timer stops, every waiting axis starts its
move at this instant, and no other axis is reached. A DWELL loads its timer; a move with distance, or a SEEK with its sensor
inactive, runs with its ramp state, its direction, DIR, its window or edge search and its first step; a zero-distance move and
a SEEK with its sensor active end at once, and offer their reports together, to be granted as State.settle does. With no such
end, or with the Report Queue full, that is all (R42, R43, R50, R76, R102, R111, R127; the readback level: log 6; GATE_FIRE
given alone: log 7). -/
def Obligations.GateFiringStartsEveryMember : Prop :=
  ∀ (s : State) (g : GateTag), s.inReset = false → s.Shaped → s.ArrivalsExact →
    (s.gate g).members ≠ 0 → (s.gate g).arrivals = (s.gate g).members →
    let fired := { s with gates := s.gates.set g { s.gate g with arrivals := 0, timer := none } }
    let started := Axis.all.foldl (fun u a => if inSet (s.gate g).members a then u.startMove a else u) fired
    let active := fun a => decide ((s.ax a).sens.qualified = (s.ax a).config.activeLevel)
    let still := fun a => (s.ax a).plannedEnd.getD (s.ax a).position == (s.ax a).position
    let ends := fun a => inSet (s.gate g).members a && (s.ax a).current.any fun m =>
      match m.task with
      | .seek _ _ _ => active a
      | .absolute _ _ _ | .relative _ _ _ => still a
      | .dwell _ => false
    let gone := (Axis.all.filter ends).filterMap fun a => (s.ax a).current
    exec (.gateFire g) s = .next started.settle ∧
    (s.NothingToGrant → (∀ a ∈ Axis.all, ends a = false) ∨ s.reports.reports.length = 16 → started.settle = started) ∧
    started = { s with
      axes := started.axes, gates := started.gates, profiles := started.profiles, poolFree := s.poolFree + gone.length } ∧
    (∀ p : ProfileNo, started.prof p =
      { s.prof p with useCount := (s.prof p).useCount - gone.countP fun m => m.task.profile? == some p }) ∧
    (∀ h : GateTag, started.gate h =
      { s.gate h with
        arrivals := if h = g then 0 else (s.gate h).arrivals, timer := if h = g then none else (s.gate h).timer
        useCount := (s.gate h).useCount - gone.countP fun m => m.gate == some h }) ∧
    ∀ a ∈ Axis.all,
      let x := s.ax a
      let ended := fun (m : Move) (position : Int) (finding : Finding) =>
        { x.clearMove with
          mode := .reporting, position := position
          offer := some
            { report := { axis := a, finding := finding, tag := m.tag, position := position, aux := 0 }
              path := finding.path } }
      let run := fun (p : ProfileNo) (distance : Int) (items : MarkItems) =>
        { x with
          mode := .accel
          ramp :=
            { profile := p, k := 0, r := distance.natAbs, stepsRun := 0, dir := if 0 < distance then .plus else .minus
              step := some ((s.prof p).decide 0 distance.natAbs), elapsed := 0 }
          mark := items
          drive :=
            let level : Level := if (0 < distance) ↔ (x.config.dirInverted = false) then .high else .low
            if x.drive.stepHigh = none then { x.drive with dir := level, dirDue := none, dirPin := level }
            else { x.drive with dirDue := some level } }
      (inSet (s.gate g).members a = false → started.ax a = x) ∧
      (∀ m, inSet (s.gate g).members a = true → x.current = some m →
        (∀ ms, m.task = .dwell ms →
          started.ax a =
            { x with
              mode := .dwelling, dwell := ms * 1000
              ramp := { x.ramp with k := 0, r := 0, stepsRun := 0, step := none, elapsed := 0 } }) ∧
        (∀ e v p mark, m.task = .absolute v p mark ∨ m.task = .relative v p mark → x.plannedEnd = some e →
          (e = x.position →
            started.ax a = ended m x.position (if mark = none then .done .plain else .missed .planned)) ∧
          (e ≠ x.position →
            started.ax a = run p (e - x.position)
              { MarkItems.empty with
                window := if mark = none then .unarmed else if mark.any (·.start == 0) then .opened else .waiting })) ∧
        (∀ v p z, m.task = .seek v p z →
          (active a = true → started.ax a = ended m (if z then 0 else x.position) (.done .atOnce)) ∧
          (active a = false → started.ax a = run p v { MarkItems.empty with search := .armed })))

/-! ## Inputs -/

/-- A pin change to the level opposite the qualified one begins a count at this instant, a return to the qualified level
before the filter time has passed discards it, and the qualified level stays, for SENS (with a filter time), /FLT and /STOP
alike. A level that has been shown for the whole filter time is accepted before the pin leaves it, with all that the acceptance
does. With a filter time of 0 a change of SENS is accepted at once, and is the edge it makes (R88, R89, R114, R137). That the
acceptance with a filter time of 0 falls inside the pin change, and that the pin's present level again is no change, is the
model's reading (log 8). -/
def Obligations.PinChangesStartAndDiscardCounts : Prop :=
  ∀ (s : State) (a : Axis) (level : Level), s.inReset = false →
    let x := s.ax a
    let after := fun (f : FilteredInput) => if level = f.pin then f
      else if level = f.qualified then { f with pin := level, count := none } else { f with pin := level, count := some 0 }
    let whole := fun (f : FilteredInput) (time : Nat) => level ≠ f.pin ∧ ∃ us, f.count = some us ∧ time ≤ us
    (x.config.filter ≠ 0 → ¬whole x.sens x.config.filter →
      exec (.sensPinChange a level) s = .next (s.setAx a { x with sens := after x.sens })) ∧
    (whole x.sens x.config.filter →
      Leads (exec (if x.sens.pin = x.config.activeLevel then .leadingEdge a else .trailingEdge a) s) fun t =>
        exec (.sensPinChange a level) s = exec (.sensPinChange a level) t) ∧
    (level = x.sens.pin → exec (.sensPinChange a level) s = .next s) ∧
    (x.config.filter = 0 → x.sens.count = none → level ≠ x.sens.pin → level ≠ x.sens.qualified →
      (x.mode.running = false → s.NothingToGrant →
        exec (.sensPinChange a level) s = .next
          (s.setAx a { x with sens := { pin := level, qualified := level, count := none } })) ∧
      (let counted := s.setAx a { x with sens := { x.sens with pin := level, count := some 0 } }
       exec (.sensPinChange a level) s =
         exec (if level = x.config.activeLevel then .leadingEdge a else .trailingEdge a) counted)) ∧
    (¬whole x.drive.flt 10 →
      exec (.fltPinChange a level) s = .next
        (s.setAx a { x with drive := { x.drive with flt := after x.drive.flt } })) ∧
    (whole x.drive.flt 10 →
      Leads (exec (if x.drive.flt.pin = .low then .fltAssertion a else .fltDeassertion a) s) fun t =>
        exec (.fltPinChange a level) s = exec (.fltPinChange a level) t) ∧
    (¬whole s.stop 10 → exec (.stopPinChange level) s = .next { s with stop := after s.stop }) ∧
    (whole s.stop 10 →
      Leads (exec (if s.stop.pin = .low then .stopAssertion else .stopDeassertion) s) fun t =>
        exec (.stopPinChange level) s = exec (.stopPinChange level) t)

/-- A leading edge in an OPEN window is the mark: m is the position, the width count starts, and with a registration part r
becomes the distance to the new end, clamped to the soft limits, or the stopping distance with outcome SHORT when that is
longer. Where the new interval has passed the pulse is emitted at once. Where r is left at 0 the move ends at the instant of the
mark, with DONE MARK_OPEN. A trailing edge taken at that instant and before that pulse or end ends the width at 0: with a filter
time of 0 either order can occur (the free value of log 25). An edge that no move watches, because the axis is not running or
its move has no open window and no armed search, changes the qualified level alone
(R28, R50, R89, R93, R97, R98, R99, R100, R101, R106). -/
def Obligations.LeadingEdgeInAnOpenWindowIsTheMark : Prop :=
  ∀ (s : State) (a : Axis),
    s.inReset = false → s.NothingToGrant → (s.ax a).sens.counting (s.ax a).config.activeLevel = true →
    let x := s.ax a
    let sens : FilteredInput := { x.sens with qualified := x.config.activeLevel, count := none }
    let marked : AxisState :=
      { x with
        sens := sens
        mark := { x.mark with window := .found, position := some x.position, width := .counting, widthCount := 0 } }
    (x.mode.running = false ∨
        (∀ m, x.current = some m →
          (m.task.mark? ≠ none → x.mark.window ≠ .opened) ∧ (∀ v p z, m.task = .seek v p z → x.mark.search ≠ .armed)) →
      exec (.leadingEdge a) s = .next (s.setAx a { x with sens := sens })) ∧
    (∀ m, x.current = some m → ∀ w, m.task.mark? = some w → x.mode.running = true → x.mark.window = .opened →
      (w.stopDistance = none → exec (.leadingEdge a) s = .next (s.setAx a marked)) ∧
      (∀ d, w.stopDistance = some d → x.limitMin ≤ x.limitMax →
        let target := if x.ramp.dir = .plus then x.position + d else x.position - d
        let goal := max x.limitMin (min x.limitMax target)
        let count := (goal - x.position).natAbs
        let stop := min x.ramp.r x.ramp.k
        let r := max stop count
        let step := (s.prof x.ramp.profile).decide x.ramp.k r
        let inactive := otherLevel x.config.activeLevel
        let planned := fun (choices : Nat) (sens' : FilteredInput) (width : Width) =>
          { s with choices := choices }.setAx a
            { x with
              sens := sens'
              ramp := { x.ramp with r := r, step := some step }
              mark :=
                { marked.mark with
                  width := width
                  registration :=
                    if count < stop then .short (stop - count) else if goal = target then .exact else .clamped } }
        0 < r →
        (x.ramp.elapsed < step.interval → exec (.leadingEdge a) s = .next (planned s.choices sens .counting)) ∧
        (step.interval ≤ x.ramp.elapsed →
          (x.config.filter ≠ 0 →
            exec (.leadingEdge a) s = .next ((planned s.choices sens .counting).pulse a).settle) ∧
          (x.config.filter = 0 →
            exec (.leadingEdge a) s = .next ((planned (s.choices + 1) sens .counting).pulse a).settle ∨
            exec (.leadingEdge a) s = .next
              ((planned (s.choices + 1) { pin := inactive, qualified := inactive, count := none } .ended).pulse a).settle))) ∧
      (∀ d, w.stopDistance = some d → x.limitMin ≤ x.limitMax →
        let target := if x.ramp.dir = .plus then x.position + d else x.position - d
        let goal := max x.limitMin (min x.limitMax target)
        let inactive := otherLevel x.config.activeLevel
        let ended := fun (choices : Nat) (sens' : FilteredInput) (detail : DoneDetail) =>
          ({ s with choices := choices }.setAx a
            { x with sens := sens', ramp := { x.ramp with r := 0, step := none } }).endedGoOn a m (.done detail) 0
        goal = x.position → min x.ramp.r x.ramp.k = 0 → s.Quiet → x.owed = none →
        (x.config.filter ≠ 0 → exec (.leadingEdge a) s = .next (ended s.choices sens .markOpen)) ∧
        (x.config.filter = 0 →
          exec (.leadingEdge a) s = .next (ended (s.choices + 1) sens .markOpen) ∨
          exec (.leadingEdge a) s = .next
            (ended (s.choices + 1) { pin := inactive, qualified := inactive, count := none }
              (if goal = target then .mark else .regClamped)))))

/-- The first leading edge of an ARMED search is the seek's edge: edge steps is set, set-zero makes the position 0, and the
axis stops under control without leaving its running states: the pending step is decided again, and emitted at once if its new
interval has passed. With no stopping distance the seek ends at once with DONE EDGE. Later edges are ignored
(R28, R29, R50, R103, R104, R105). -/
def Obligations.LeadingEdgeOfASeekStopsIt : Prop :=
  ∀ (s : State) (a : Axis) (m : Move) (v : Int) (p : ProfileNo) (z : Bool),
    s.inReset = false → (s.ax a).sens.counting (s.ax a).config.activeLevel = true →
    (s.ax a).current = some m → m.task = .seek v p z → (s.ax a).mode.running = true →
    let x := s.ax a
    let sens : FilteredInput := { x.sens with qualified := x.config.activeLevel, count := none }
    let n := min x.ramp.r x.ramp.k
    let step := (s.prof x.ramp.profile).decide x.ramp.k n
    let found : AxisState :=
      { x with
        sens := sens
        position := if z then 0 else x.position
        mark := { x.mark with search := .found, edgeSteps := x.ramp.stepsRun } }
    (x.mark.search ≠ .armed → s.NothingToGrant → exec (.leadingEdge a) s = .next (s.setAx a { x with sens := sens })) ∧
    (x.mark.search = .armed → 0 < n → s.NothingToGrant → x.ramp.elapsed < step.interval →
      exec (.leadingEdge a) s = .next
        (s.setAx a { found with ramp := { x.ramp with r := n, step := some step } })) ∧
    (x.mark.search = .armed → 0 < n → step.interval ≤ x.ramp.elapsed →
      exec (.leadingEdge a) s = .next
        (((s.setAx a { found with ramp := { x.ramp with r := n, step := some step } }).pulse a).settle)) ∧
    (x.mark.search = .armed → n = 0 → s.Quiet → x.owed = none →
      exec (.leadingEdge a) s = .next
        ((s.setAx a { found with ramp := { x.ramp with r := 0, step := none } }).endedGoOn
          a m (.done .edge) x.ramp.stepsRun))

/-- A trailing edge ends a COUNTING width of a running mark move and otherwise changes the qualified level alone; a
deassertion of /FLT or /STOP changes the qualified level and nothing else (R89, R97, R114, R137). -/
def Obligations.TrailingEdgesAndDeassertionsOnlyQualify : Prop :=
  ∀ (s : State) (a : Axis), s.inReset = false → s.NothingToGrant →
    ((s.ax a).sens.counting (otherLevel (s.ax a).config.activeLevel) = true →
      exec (.trailingEdge a) s = .next (s.setAx a
        { s.ax a with
          sens := { (s.ax a).sens with qualified := (s.ax a).sens.pin, count := none }
          mark :=
            { (s.ax a).mark with
              width :=
                if (s.ax a).mode.running = true ∧ (s.ax a).mark.width = .counting ∧
                  ((s.ax a).current.bind (·.task.mark?)).isSome = true then .ended else (s.ax a).mark.width } })) ∧
    ((s.ax a).drive.flt.counting .high = true →
      exec (.fltDeassertion a) s = .next (s.setAx a
        { s.ax a with
          drive :=
            { (s.ax a).drive with flt := { pin := .high, qualified := .high, count := none } } })) ∧
    (s.stop.counting .high = true →
      exec .stopDeassertion s = .next { s with stop := { pin := .high, qualified := .high, count := none } })

/-- A /FLT assertion is a drive fault in every state but DISABLED: cause DRIVE at once; a running, stopping or dwelling move
ends where it stands; a gated move is withdrawn and held; IDLE and HALTED axes report for the fault alone. The report is
deposited at once, or with the Report Queue full the axis waits in REPORTING with the path HALTED, cause DRIVE (R50, R54, R55,
R82, R114 to R117; an axis already in REPORTING is ReportingAxisKeepsItsReport's). -/
def Obligations.FltAssertionIsADriveFault : Prop :=
  ∀ (s : State) (a : Axis), s.inReset = false → s.Shaped → (s.ax a).drive.flt.counting .low = true →
    let x := s.ax a
    let accepted : AxisState := { x with drive := { x.drive with flt := { pin := .low, qualified := .low, count := none } } }
    let y : AxisState := { accepted with cause := .drive }
    (x.mode = .disabled → s.NothingToGrant → exec (.fltAssertion a) s = .next (s.setAx a accepted)) ∧
    (s.Quiet →
      (∀ m, x.current = some m →
        (x.mode.running = true ∨ x.mode = .stopping →
          exec (.fltAssertion a) s = .next
            ((s.setAx a y).endedStop a m (.driveFault .driverInput) x.ramp.stepsRun .drive)) ∧
        (x.mode = .dwelling →
          exec (.fltAssertion a) s = .next ((s.setAx a y).endedStop a m (.driveFault .driverInput) 0 .drive)) ∧
        (∀ g, x.mode = .gated → m.gate = some g →
          exec (.fltAssertion a) s = .next
            ({ s with
               gates := s.gates.set g
                 { s.gate g with
                   arrivals := (s.gate g).arrivals &&& ~~~(axisBit a)
                   timer := if (s.gate g).arrivals &&& ~~~(axisBit a) = 0 then none else (s.gate g).timer } }.faulted
              a { y with held := some m, current := none, plannedEnd := none } .driverInput m.tag))) ∧
      (x.mode = .idle → exec (.fltAssertion a) s = .next (s.faulted a y .driverInput 0)) ∧
      (x.mode = .halted →
        exec (.fltAssertion a) s = .next (s.faulted a y .driverInput ((x.held.map (·.tag)).getD 0))))

/-- A drive fault or a stop that finds its axis in REPORTING, with the Report Queue full, leaves the pending report: the fault
is owed with the detail of the first, and the stop, HALTALL or a /STOP assertion, turns a CONTINUE path into HALTED with its
cause (R52, R118, R142). -/
def Obligations.ReportingAxisKeepsItsReport : Prop :=
  ∀ (s : State) (a : Axis) (o : Offer), s.inReset = false → s.reports.reports.length = 16 →
    (s.ax a).mode = .reporting → (s.ax a).offer = some o →
    ((s.ax a).drive.flt.counting .low = true →
      exec (.fltAssertion a) s = .next (s.setAx a
        { s.ax a with
          cause := .drive, owed := some ((s.ax a).owed.getD .driverInput)
          drive := { (s.ax a).drive with flt := { pin := .low, qualified := .low, count := none } } })) ∧
    (Leads (exec .haltall s) fun t =>
      t.ax a =
        { s.ax a with offer := some { o with path := if o.path = .cont then .halted .stopCmd else o.path } }) ∧
    (s.stop.counting .low = true →
      Leads (exec .stopAssertion s) fun t =>
        t.ax a =
          { s.ax a with offer := some { o with path := if o.path = .cont then .halted .stopLine else o.path } })

/-- What the read-only views and the two computed lines show: the counts, the codes of Table 3-2, Table 9-3 and Table 9-6, the
bits of AXIN, of which two are the STEP and DIR pins as they are at the read, the snapshot and the block; /INT is asserted
exactly when some flag is set and enabled, and ENA exactly when the axis is enabled and its halt cause is not DRIVE
(R56, R65, R109, R112, R113, R153, R155, R156, R161, R162, R164). -/
def Obligations.ViewsAndLinesShowTheState : Prop :=
  ∀ (s : State) (pins : Readback),
    (s.intAsserted = true ↔ ∃ i : Fin 3, s.iflag.getLsbD i = true ∧ s.ienable.getLsbD i = true) ∧
    (∀ a ∈ Axis.all, s.Shaped →
      ((s.ax a).ena = true ↔ (s.ax a).config.enable = true ∧ (s.ax a).cause ≠ .drive)) ∧
    (s.inReset = false →
      let x := s.ax s.axsel
      s.readLocation pins 0x00 = 0x9C ∧
      [Result.ok, .badCommand, .badParam, .axisDisabled, .axisBusy, .noMove, .notHalted, .stopActive, .driveActive,
        .quotaFull, .poolFull, .gateUnset, .gateMember, .gateInUse, .profileInUse, .queueEmpty][
        (s.readLocation pins 0x01).toNat]? = some s.cres ∧
      (s.reports.reports.length ≤ 16 → (s.readLocation pins 0x02).toNat = s.reports.reports.length) ∧
      (s.poolFree ≤ 32 → (s.readLocation pins 0x03).toNat = s.poolFree) ∧
      (s.readLocation pins 0x04).toNat = s.iflag.toNat ∧ (s.readLocation pins 0x05).toNat = s.ienable.toNat ∧
      (s.readLocation pins 0x06).toNat = s.axsel.idx.val ∧
      [Mode.disabled, .idle, .gated, .accel, .cruise, .decel, .dwelling, .stopping, .reporting, .halted][
        (s.readLocation pins 0x07).toNat]? = some x.mode ∧
      (x.queue.length ≤ 32 → (s.readLocation pins 0x08).toNat = x.queue.length) ∧
      s.readLocation pins 0x0A = s.snapshot.extractLsb' 8 8 ∧ s.readLocation pins 0x0B = s.snapshot.extractLsb' 16 8 ∧
      ((s.readLocation pins 0x0C).getLsbD 0 = true ↔ x.sens.qualified = .high) ∧
      ((s.readLocation pins 0x0C).getLsbD 1 = true ↔ x.sens.qualified = x.config.activeLevel) ∧
      ((s.readLocation pins 0x0C).getLsbD 2 = true ↔ x.drive.flt.qualified = .high) ∧
      ((s.readLocation pins 0x0C).getLsbD 3 = true ↔ s.stop.qualified = .high) ∧
      ((s.readLocation pins 0x0C).getLsbD 4 = true ↔ pins.step = .high) ∧
      ((s.readLocation pins 0x0C).getLsbD 5 = true ↔ pins.dir = .high) ∧
      (s.readLocation pins 0x0C).extractLsb' 6 2 = 0 ∧
      [HaltCause.none, .limit, .missed, .seekfail, .abort, .stopLine, .stopCmd, .gateTimeout, .drive][
        ((s.readLocation pins 0x0E).extractLsb' 0 7).toNat]? = some x.cause ∧
      ((s.readLocation pins 0x0E).getLsbD 7 = true ↔ x.held ≠ none) ∧
      s.readLocation pins 0x0F = (if s.style = .immediate then 1 else 0) ∧
      ∀ i : Fin 16, s.readLocation pins (BitVec.ofNat 5 (16 + i.val)) = s.block[i])
end

