-- ==== Sys2Proof/Laws/State.lean ====
section
/-! SUPPORT. The small lemmas of the state's accessors and updates: what each update of one item gives, and that it leaves every
other item as it was. -/

namespace Sys2Proof.Machine

variable (s : State)

/-! ## Axes, gates and profiles -/

theorem Axis.idx_injective {a b : Axis} (h : a.idx = b.idx) : a = b := by
  cases a <;> cases b <;> first | rfl | exact absurd h (by decide)

@[simp] theorem Axis.mem_all (a : Axis) : a ∈ Axis.all := by cases a <;> decide

@[simp] theorem ax_setAx_self (a : Axis) (x : AxisState) : (s.setAx a x).ax a = x := by
  simp [State.setAx, State.ax]

theorem ax_setAx_of_ne {a b : Axis} (h : b ≠ a) (x : AxisState) : (s.setAx a x).ax b = s.ax b := by
  have : (a.idx : Nat) ≠ b.idx := fun e => h (Axis.idx_injective (Fin.ext e.symm))
  simp [State.setAx, State.ax, this]

theorem ax_setAx (a b : Axis) (x : AxisState) : (s.setAx a x).ax b = if b = a then x else s.ax b := by
  split
  · next h => rw [h, ax_setAx_self]
  · next h => exact ax_setAx_of_ne s h x

@[simp] theorem ax_modAx_self (a : Axis) (f : AxisState → AxisState) : (s.modAx a f).ax a = f (s.ax a) :=
  ax_setAx_self s a _

theorem ax_modAx_of_ne {a b : Axis} (h : b ≠ a) (f : AxisState → AxisState) : (s.modAx a f).ax b = s.ax b :=
  ax_setAx_of_ne s h _

theorem ax_modAx (a b : Axis) (f : AxisState → AxisState) :
    (s.modAx a f).ax b = if b = a then f (s.ax a) else s.ax b := ax_setAx s a b _

@[simp] theorem setAx_setAx (a : Axis) (x y : AxisState) : (s.setAx a x).setAx a y = s.setAx a y := by
  simp [State.setAx]

@[simp] theorem setAx_ax (a : Axis) : s.setAx a (s.ax a) = s := by
  simp [State.setAx, State.ax]

@[simp] theorem modAx_modAx (a : Axis) (f g : AxisState → AxisState) :
    (s.modAx a f).modAx a g = s.modAx a fun x => g (f x) := by
  simp [State.modAx]

@[simp] theorem gate_modGate_self (g : GateTag) (f : Gate → Gate) : (s.modGate g f).gate g = f (s.gate g) := by
  simp [State.modGate, State.gate]

theorem gate_modGate_of_ne {g h : GateTag} (ne : h ≠ g) (f : Gate → Gate) : (s.modGate g f).gate h = s.gate h := by
  have : (g : Nat) ≠ h := fun e => ne (Fin.ext e.symm)
  simp [State.modGate, State.gate, this]

theorem gate_modGate (g h : GateTag) (f : Gate → Gate) :
    (s.modGate g f).gate h = if h = g then f (s.gate g) else s.gate h := by
  split
  · next e => rw [e, gate_modGate_self]
  · next e => exact gate_modGate_of_ne s e f

@[simp] theorem prof_modProf_self (p : ProfileNo) (f : Profile → Profile) : (s.modProf p f).prof p = f (s.prof p) := by
  simp [State.modProf, State.prof]

theorem prof_modProf_of_ne {p q : ProfileNo} (ne : q ≠ p) (f : Profile → Profile) :
    (s.modProf p f).prof q = s.prof q := by
  have : (p : Nat) ≠ q := fun e => ne (Fin.ext e.symm)
  simp [State.modProf, State.prof, this]

theorem prof_modProf (p q : ProfileNo) (f : Profile → Profile) :
    (s.modProf p f).prof q = if q = p then f (s.prof p) else s.prof q := by
  split
  · next e => rw [e, prof_modProf_self]
  · next e => exact prof_modProf_of_ne s e f

/-! ## Changes of every axis, gate or profile alike -/

/-- An axis after a change of every axis. -/
theorem ax_mapAxes {t : State} {f : AxisState → AxisState} (h : t.axes = s.mapAxes f) (a : Axis) :
    t.ax a = f (s.ax a) := by
  rw [State.ax, h]; cases a <;> rfl

/-- A gate record after a change of every gate. -/
theorem gate_mapGates {t : State} {f : Gate → Gate} (h : t.gates = s.mapGates f) (g : GateTag) :
    t.gate g = f (s.gate g) := by
  rw [State.gate, h]; fin_cases g <;> rfl

/-- A profile entry after a change of every profile. -/
theorem prof_mapProfs {t : State} {f : Profile → Profile} (h : t.profiles = s.mapProfs f) (p : ProfileNo) :
    t.prof p = f (s.prof p) := by
  rw [State.prof, h]; fin_cases p <;> rfl

/-! ## setAx -/

@[simp] theorem setAx_poolFree (a : Axis) (x : AxisState) : (s.setAx a x).poolFree = s.poolFree := rfl
@[simp] theorem setAx_profiles (a : Axis) (x : AxisState) : (s.setAx a x).profiles = s.profiles := rfl
@[simp] theorem setAx_gates (a : Axis) (x : AxisState) : (s.setAx a x).gates = s.gates := rfl
@[simp] theorem setAx_reports (a : Axis) (x : AxisState) : (s.setAx a x).reports = s.reports := rfl
@[simp] theorem setAx_stop (a : Axis) (x : AxisState) : (s.setAx a x).stop = s.stop := rfl
@[simp] theorem setAx_style (a : Axis) (x : AxisState) : (s.setAx a x).style = s.style := rfl
@[simp] theorem setAx_block (a : Axis) (x : AxisState) : (s.setAx a x).block = s.block := rfl
@[simp] theorem setAx_cres (a : Axis) (x : AxisState) : (s.setAx a x).cres = s.cres := rfl
@[simp] theorem setAx_axsel (a : Axis) (x : AxisState) : (s.setAx a x).axsel = s.axsel := rfl
@[simp] theorem setAx_snapshot (a : Axis) (x : AxisState) : (s.setAx a x).snapshot = s.snapshot := rfl
@[simp] theorem setAx_iflag (a : Axis) (x : AxisState) : (s.setAx a x).iflag = s.iflag := rfl
@[simp] theorem setAx_ienable (a : Axis) (x : AxisState) : (s.setAx a x).ienable = s.ienable := rfl
@[simp] theorem setAx_dataOut (a : Axis) (x : AxisState) : (s.setAx a x).dataOut = s.dataOut := rfl
@[simp] theorem setAx_inReset (a : Axis) (x : AxisState) : (s.setAx a x).inReset = s.inReset := rfl
@[simp] theorem setAx_choices (a : Axis) (x : AxisState) : (s.setAx a x).choices = s.choices := rfl
@[simp] theorem setAx_pending (a : Axis) (x : AxisState) : (s.setAx a x).pending = s.pending := rfl
@[simp] theorem gate_setAx (a : Axis) (x : AxisState) (t : GateTag) : (s.setAx a x).gate t = s.gate t := rfl
@[simp] theorem prof_setAx (a : Axis) (x : AxisState) (q : ProfileNo) : (s.setAx a x).prof q = s.prof q := rfl

/-! ## modAx -/

@[simp] theorem modAx_poolFree (a : Axis) (f : AxisState → AxisState) : (s.modAx a f).poolFree = s.poolFree := rfl
@[simp] theorem modAx_profiles (a : Axis) (f : AxisState → AxisState) : (s.modAx a f).profiles = s.profiles := rfl
@[simp] theorem modAx_gates (a : Axis) (f : AxisState → AxisState) : (s.modAx a f).gates = s.gates := rfl
@[simp] theorem modAx_reports (a : Axis) (f : AxisState → AxisState) : (s.modAx a f).reports = s.reports := rfl
@[simp] theorem modAx_stop (a : Axis) (f : AxisState → AxisState) : (s.modAx a f).stop = s.stop := rfl
@[simp] theorem modAx_style (a : Axis) (f : AxisState → AxisState) : (s.modAx a f).style = s.style := rfl
@[simp] theorem modAx_block (a : Axis) (f : AxisState → AxisState) : (s.modAx a f).block = s.block := rfl
@[simp] theorem modAx_cres (a : Axis) (f : AxisState → AxisState) : (s.modAx a f).cres = s.cres := rfl
@[simp] theorem modAx_axsel (a : Axis) (f : AxisState → AxisState) : (s.modAx a f).axsel = s.axsel := rfl
@[simp] theorem modAx_snapshot (a : Axis) (f : AxisState → AxisState) : (s.modAx a f).snapshot = s.snapshot := rfl
@[simp] theorem modAx_iflag (a : Axis) (f : AxisState → AxisState) : (s.modAx a f).iflag = s.iflag := rfl
@[simp] theorem modAx_ienable (a : Axis) (f : AxisState → AxisState) : (s.modAx a f).ienable = s.ienable := rfl
@[simp] theorem modAx_dataOut (a : Axis) (f : AxisState → AxisState) : (s.modAx a f).dataOut = s.dataOut := rfl
@[simp] theorem modAx_inReset (a : Axis) (f : AxisState → AxisState) : (s.modAx a f).inReset = s.inReset := rfl
@[simp] theorem modAx_choices (a : Axis) (f : AxisState → AxisState) : (s.modAx a f).choices = s.choices := rfl
@[simp] theorem modAx_pending (a : Axis) (f : AxisState → AxisState) : (s.modAx a f).pending = s.pending := rfl
@[simp] theorem gate_modAx (a : Axis) (f : AxisState → AxisState) (t : GateTag) : (s.modAx a f).gate t = s.gate t := rfl
@[simp] theorem prof_modAx (a : Axis) (f : AxisState → AxisState) (q : ProfileNo) : (s.modAx a f).prof q = s.prof q := rfl

/-! ## modGate -/

@[simp] theorem modGate_axes (g : GateTag) (f : Gate → Gate) : (s.modGate g f).axes = s.axes := rfl
@[simp] theorem modGate_poolFree (g : GateTag) (f : Gate → Gate) : (s.modGate g f).poolFree = s.poolFree := rfl
@[simp] theorem modGate_profiles (g : GateTag) (f : Gate → Gate) : (s.modGate g f).profiles = s.profiles := rfl
@[simp] theorem modGate_reports (g : GateTag) (f : Gate → Gate) : (s.modGate g f).reports = s.reports := rfl
@[simp] theorem modGate_stop (g : GateTag) (f : Gate → Gate) : (s.modGate g f).stop = s.stop := rfl
@[simp] theorem modGate_style (g : GateTag) (f : Gate → Gate) : (s.modGate g f).style = s.style := rfl
@[simp] theorem modGate_block (g : GateTag) (f : Gate → Gate) : (s.modGate g f).block = s.block := rfl
@[simp] theorem modGate_cres (g : GateTag) (f : Gate → Gate) : (s.modGate g f).cres = s.cres := rfl
@[simp] theorem modGate_axsel (g : GateTag) (f : Gate → Gate) : (s.modGate g f).axsel = s.axsel := rfl
@[simp] theorem modGate_snapshot (g : GateTag) (f : Gate → Gate) : (s.modGate g f).snapshot = s.snapshot := rfl
@[simp] theorem modGate_iflag (g : GateTag) (f : Gate → Gate) : (s.modGate g f).iflag = s.iflag := rfl
@[simp] theorem modGate_ienable (g : GateTag) (f : Gate → Gate) : (s.modGate g f).ienable = s.ienable := rfl
@[simp] theorem modGate_dataOut (g : GateTag) (f : Gate → Gate) : (s.modGate g f).dataOut = s.dataOut := rfl
@[simp] theorem modGate_inReset (g : GateTag) (f : Gate → Gate) : (s.modGate g f).inReset = s.inReset := rfl
@[simp] theorem modGate_choices (g : GateTag) (f : Gate → Gate) : (s.modGate g f).choices = s.choices := rfl
@[simp] theorem modGate_pending (g : GateTag) (f : Gate → Gate) : (s.modGate g f).pending = s.pending := rfl
@[simp] theorem ax_modGate (g : GateTag) (f : Gate → Gate) (c : Axis) : (s.modGate g f).ax c = s.ax c := rfl
@[simp] theorem prof_modGate (g : GateTag) (f : Gate → Gate) (q : ProfileNo) : (s.modGate g f).prof q = s.prof q := rfl

/-! ## modProf -/

@[simp] theorem modProf_axes (p : ProfileNo) (f : Profile → Profile) : (s.modProf p f).axes = s.axes := rfl
@[simp] theorem modProf_poolFree (p : ProfileNo) (f : Profile → Profile) : (s.modProf p f).poolFree = s.poolFree := rfl
@[simp] theorem modProf_gates (p : ProfileNo) (f : Profile → Profile) : (s.modProf p f).gates = s.gates := rfl
@[simp] theorem modProf_reports (p : ProfileNo) (f : Profile → Profile) : (s.modProf p f).reports = s.reports := rfl
@[simp] theorem modProf_stop (p : ProfileNo) (f : Profile → Profile) : (s.modProf p f).stop = s.stop := rfl
@[simp] theorem modProf_style (p : ProfileNo) (f : Profile → Profile) : (s.modProf p f).style = s.style := rfl
@[simp] theorem modProf_block (p : ProfileNo) (f : Profile → Profile) : (s.modProf p f).block = s.block := rfl
@[simp] theorem modProf_cres (p : ProfileNo) (f : Profile → Profile) : (s.modProf p f).cres = s.cres := rfl
@[simp] theorem modProf_axsel (p : ProfileNo) (f : Profile → Profile) : (s.modProf p f).axsel = s.axsel := rfl
@[simp] theorem modProf_snapshot (p : ProfileNo) (f : Profile → Profile) : (s.modProf p f).snapshot = s.snapshot := rfl
@[simp] theorem modProf_iflag (p : ProfileNo) (f : Profile → Profile) : (s.modProf p f).iflag = s.iflag := rfl
@[simp] theorem modProf_ienable (p : ProfileNo) (f : Profile → Profile) : (s.modProf p f).ienable = s.ienable := rfl
@[simp] theorem modProf_dataOut (p : ProfileNo) (f : Profile → Profile) : (s.modProf p f).dataOut = s.dataOut := rfl
@[simp] theorem modProf_inReset (p : ProfileNo) (f : Profile → Profile) : (s.modProf p f).inReset = s.inReset := rfl
@[simp] theorem modProf_choices (p : ProfileNo) (f : Profile → Profile) : (s.modProf p f).choices = s.choices := rfl
@[simp] theorem modProf_pending (p : ProfileNo) (f : Profile → Profile) : (s.modProf p f).pending = s.pending := rfl
@[simp] theorem ax_modProf (p : ProfileNo) (f : Profile → Profile) (c : Axis) : (s.modProf p f).ax c = s.ax c := rfl
@[simp] theorem gate_modProf (p : ProfileNo) (f : Profile → Profile) (t : GateTag) : (s.modProf p f).gate t = s.gate t := rfl

/-! ## result -/

@[simp] theorem result_axes (r : Result) : (s.result r).axes = s.axes := rfl
@[simp] theorem result_poolFree (r : Result) : (s.result r).poolFree = s.poolFree := rfl
@[simp] theorem result_profiles (r : Result) : (s.result r).profiles = s.profiles := rfl
@[simp] theorem result_gates (r : Result) : (s.result r).gates = s.gates := rfl
@[simp] theorem result_reports (r : Result) : (s.result r).reports = s.reports := rfl
@[simp] theorem result_stop (r : Result) : (s.result r).stop = s.stop := rfl
@[simp] theorem result_style (r : Result) : (s.result r).style = s.style := rfl
@[simp] theorem result_block (r : Result) : (s.result r).block = s.block := rfl
@[simp] theorem result_axsel (r : Result) : (s.result r).axsel = s.axsel := rfl
@[simp] theorem result_snapshot (r : Result) : (s.result r).snapshot = s.snapshot := rfl
@[simp] theorem result_iflag (r : Result) : (s.result r).iflag = s.iflag := rfl
@[simp] theorem result_ienable (r : Result) : (s.result r).ienable = s.ienable := rfl
@[simp] theorem result_dataOut (r : Result) : (s.result r).dataOut = s.dataOut := rfl
@[simp] theorem result_inReset (r : Result) : (s.result r).inReset = s.inReset := rfl
@[simp] theorem result_choices (r : Result) : (s.result r).choices = s.choices := rfl
@[simp] theorem result_pending (r : Result) : (s.result r).pending = s.pending := rfl
@[simp] theorem ax_result (r : Result) (c : Axis) : (s.result r).ax c = s.ax c := rfl
@[simp] theorem gate_result (r : Result) (t : GateTag) : (s.result r).gate t = s.gate t := rfl
@[simp] theorem prof_result (r : Result) (q : ProfileNo) : (s.result r).prof q = s.prof q := rfl

/-! ## latch -/

@[simp] theorem latch_axes (flag : BitVec 3) : (s.latch flag).axes = s.axes := rfl
@[simp] theorem latch_poolFree (flag : BitVec 3) : (s.latch flag).poolFree = s.poolFree := rfl
@[simp] theorem latch_profiles (flag : BitVec 3) : (s.latch flag).profiles = s.profiles := rfl
@[simp] theorem latch_gates (flag : BitVec 3) : (s.latch flag).gates = s.gates := rfl
@[simp] theorem latch_reports (flag : BitVec 3) : (s.latch flag).reports = s.reports := rfl
@[simp] theorem latch_stop (flag : BitVec 3) : (s.latch flag).stop = s.stop := rfl
@[simp] theorem latch_style (flag : BitVec 3) : (s.latch flag).style = s.style := rfl
@[simp] theorem latch_block (flag : BitVec 3) : (s.latch flag).block = s.block := rfl
@[simp] theorem latch_cres (flag : BitVec 3) : (s.latch flag).cres = s.cres := rfl
@[simp] theorem latch_axsel (flag : BitVec 3) : (s.latch flag).axsel = s.axsel := rfl
@[simp] theorem latch_snapshot (flag : BitVec 3) : (s.latch flag).snapshot = s.snapshot := rfl
@[simp] theorem latch_ienable (flag : BitVec 3) : (s.latch flag).ienable = s.ienable := rfl
@[simp] theorem latch_dataOut (flag : BitVec 3) : (s.latch flag).dataOut = s.dataOut := rfl
@[simp] theorem latch_inReset (flag : BitVec 3) : (s.latch flag).inReset = s.inReset := rfl
@[simp] theorem latch_choices (flag : BitVec 3) : (s.latch flag).choices = s.choices := rfl
@[simp] theorem latch_pending (flag : BitVec 3) : (s.latch flag).pending = s.pending := rfl
@[simp] theorem ax_latch (flag : BitVec 3) (c : Axis) : (s.latch flag).ax c = s.ax c := rfl
@[simp] theorem gate_latch (flag : BitVec 3) (t : GateTag) : (s.latch flag).gate t = s.gate t := rfl
@[simp] theorem prof_latch (flag : BitVec 3) (q : ProfileNo) : (s.latch flag).prof q = s.prof q := rfl

/-! ## deposit -/

@[simp] theorem deposit_axes (r : Report) : (s.deposit r).axes = s.axes := rfl
@[simp] theorem deposit_poolFree (r : Report) : (s.deposit r).poolFree = s.poolFree := rfl
@[simp] theorem deposit_profiles (r : Report) : (s.deposit r).profiles = s.profiles := rfl
@[simp] theorem deposit_gates (r : Report) : (s.deposit r).gates = s.gates := rfl
@[simp] theorem deposit_stop (r : Report) : (s.deposit r).stop = s.stop := rfl
@[simp] theorem deposit_style (r : Report) : (s.deposit r).style = s.style := rfl
@[simp] theorem deposit_block (r : Report) : (s.deposit r).block = s.block := rfl
@[simp] theorem deposit_cres (r : Report) : (s.deposit r).cres = s.cres := rfl
@[simp] theorem deposit_axsel (r : Report) : (s.deposit r).axsel = s.axsel := rfl
@[simp] theorem deposit_snapshot (r : Report) : (s.deposit r).snapshot = s.snapshot := rfl
@[simp] theorem deposit_ienable (r : Report) : (s.deposit r).ienable = s.ienable := rfl
@[simp] theorem deposit_dataOut (r : Report) : (s.deposit r).dataOut = s.dataOut := rfl
@[simp] theorem deposit_inReset (r : Report) : (s.deposit r).inReset = s.inReset := rfl
@[simp] theorem deposit_choices (r : Report) : (s.deposit r).choices = s.choices := rfl
@[simp] theorem deposit_pending (r : Report) : (s.deposit r).pending = s.pending := rfl
@[simp] theorem ax_deposit (r : Report) (c : Axis) : (s.deposit r).ax c = s.ax c := rfl
@[simp] theorem gate_deposit (r : Report) (t : GateTag) : (s.deposit r).gate t = s.gate t := rfl
@[simp] theorem prof_deposit (r : Report) (q : ProfileNo) : (s.deposit r).prof q = s.prof q := rfl

/-! ## offerReport -/

@[simp] theorem offerReport_poolFree (a : Axis) (k : Finding) (tag : Byte) (aux : Nat) : (s.offerReport a k tag aux).poolFree = s.poolFree := rfl
@[simp] theorem offerReport_profiles (a : Axis) (k : Finding) (tag : Byte) (aux : Nat) : (s.offerReport a k tag aux).profiles = s.profiles := rfl
@[simp] theorem offerReport_gates (a : Axis) (k : Finding) (tag : Byte) (aux : Nat) : (s.offerReport a k tag aux).gates = s.gates := rfl
@[simp] theorem offerReport_reports (a : Axis) (k : Finding) (tag : Byte) (aux : Nat) : (s.offerReport a k tag aux).reports = s.reports := rfl
@[simp] theorem offerReport_stop (a : Axis) (k : Finding) (tag : Byte) (aux : Nat) : (s.offerReport a k tag aux).stop = s.stop := rfl
@[simp] theorem offerReport_style (a : Axis) (k : Finding) (tag : Byte) (aux : Nat) : (s.offerReport a k tag aux).style = s.style := rfl
@[simp] theorem offerReport_block (a : Axis) (k : Finding) (tag : Byte) (aux : Nat) : (s.offerReport a k tag aux).block = s.block := rfl
@[simp] theorem offerReport_cres (a : Axis) (k : Finding) (tag : Byte) (aux : Nat) : (s.offerReport a k tag aux).cres = s.cres := rfl
@[simp] theorem offerReport_axsel (a : Axis) (k : Finding) (tag : Byte) (aux : Nat) : (s.offerReport a k tag aux).axsel = s.axsel := rfl
@[simp] theorem offerReport_snapshot (a : Axis) (k : Finding) (tag : Byte) (aux : Nat) : (s.offerReport a k tag aux).snapshot = s.snapshot := rfl
@[simp] theorem offerReport_iflag (a : Axis) (k : Finding) (tag : Byte) (aux : Nat) : (s.offerReport a k tag aux).iflag = s.iflag := rfl
@[simp] theorem offerReport_ienable (a : Axis) (k : Finding) (tag : Byte) (aux : Nat) : (s.offerReport a k tag aux).ienable = s.ienable := rfl
@[simp] theorem offerReport_dataOut (a : Axis) (k : Finding) (tag : Byte) (aux : Nat) : (s.offerReport a k tag aux).dataOut = s.dataOut := rfl
@[simp] theorem offerReport_inReset (a : Axis) (k : Finding) (tag : Byte) (aux : Nat) : (s.offerReport a k tag aux).inReset = s.inReset := rfl
@[simp] theorem offerReport_choices (a : Axis) (k : Finding) (tag : Byte) (aux : Nat) : (s.offerReport a k tag aux).choices = s.choices := rfl
@[simp] theorem offerReport_pending (a : Axis) (k : Finding) (tag : Byte) (aux : Nat) : (s.offerReport a k tag aux).pending = s.pending := rfl
@[simp] theorem gate_offerReport (a : Axis) (k : Finding) (tag : Byte) (aux : Nat) (t : GateTag) : (s.offerReport a k tag aux).gate t = s.gate t := rfl
@[simp] theorem prof_offerReport (a : Axis) (k : Finding) (tag : Byte) (aux : Nat) (q : ProfileNo) : (s.offerReport a k tag aux).prof q = s.prof q := rfl

/-! ## enterHalted -/

@[simp] theorem enterHalted_poolFree (a : Axis) (cause : HaltCause) : (s.enterHalted a cause).poolFree = s.poolFree := rfl
@[simp] theorem enterHalted_profiles (a : Axis) (cause : HaltCause) : (s.enterHalted a cause).profiles = s.profiles := rfl
@[simp] theorem enterHalted_gates (a : Axis) (cause : HaltCause) : (s.enterHalted a cause).gates = s.gates := rfl
@[simp] theorem enterHalted_reports (a : Axis) (cause : HaltCause) : (s.enterHalted a cause).reports = s.reports := rfl
@[simp] theorem enterHalted_stop (a : Axis) (cause : HaltCause) : (s.enterHalted a cause).stop = s.stop := rfl
@[simp] theorem enterHalted_style (a : Axis) (cause : HaltCause) : (s.enterHalted a cause).style = s.style := rfl
@[simp] theorem enterHalted_block (a : Axis) (cause : HaltCause) : (s.enterHalted a cause).block = s.block := rfl
@[simp] theorem enterHalted_cres (a : Axis) (cause : HaltCause) : (s.enterHalted a cause).cres = s.cres := rfl
@[simp] theorem enterHalted_axsel (a : Axis) (cause : HaltCause) : (s.enterHalted a cause).axsel = s.axsel := rfl
@[simp] theorem enterHalted_snapshot (a : Axis) (cause : HaltCause) : (s.enterHalted a cause).snapshot = s.snapshot := rfl
@[simp] theorem enterHalted_ienable (a : Axis) (cause : HaltCause) : (s.enterHalted a cause).ienable = s.ienable := rfl
@[simp] theorem enterHalted_dataOut (a : Axis) (cause : HaltCause) : (s.enterHalted a cause).dataOut = s.dataOut := rfl
@[simp] theorem enterHalted_inReset (a : Axis) (cause : HaltCause) : (s.enterHalted a cause).inReset = s.inReset := rfl
@[simp] theorem enterHalted_choices (a : Axis) (cause : HaltCause) : (s.enterHalted a cause).choices = s.choices := rfl
@[simp] theorem enterHalted_pending (a : Axis) (cause : HaltCause) : (s.enterHalted a cause).pending = s.pending := rfl
@[simp] theorem gate_enterHalted (a : Axis) (cause : HaltCause) (t : GateTag) : (s.enterHalted a cause).gate t = s.gate t := rfl
@[simp] theorem prof_enterHalted (a : Axis) (cause : HaltCause) (q : ProfileNo) : (s.enterHalted a cause).prof q = s.prof q := rfl

/-! ## What the updates write -/

@[simp] theorem result_cres (r : Result) : (s.result r).cres = r := rfl
@[simp] theorem latch_iflag (flag : BitVec 3) : (s.latch flag).iflag = s.iflag ||| flag := rfl
@[simp] theorem deposit_iflag (r : Report) : (s.deposit r).iflag = s.iflag ||| flagREPORT := rfl
@[simp] theorem deposit_reports (r : Report) :
    (s.deposit r).reports =
      { s.reports with
        reports := s.reports.reports ++ [{ seq := s.reports.seq, report := r }]
        seq := s.reports.seq + 1, last := r.axis } := rfl
@[simp] theorem enterHalted_iflag (a : Axis) (cause : HaltCause) :
    (s.enterHalted a cause).iflag = s.iflag ||| flagHALT := rfl
@[simp] theorem ax_enterHalted_self (a : Axis) (cause : HaltCause) :
    (s.enterHalted a cause).ax a = { s.ax a with mode := .halted, cause := (s.ax a).cause.enter cause } := by
  rw [State.enterHalted, ax_latch, ax_modAx_self]
@[simp] theorem ax_offerReport_self (a : Axis) (k : Finding) (tag : Byte) (aux : Nat) :
    (s.offerReport a k tag aux).ax a =
      { s.ax a with
        mode := .reporting
        offer := some
          { report := { axis := a, finding := k, tag := tag, position := (s.ax a).position, aux := aux }
            path := k.path } } := by
  rw [State.offerReport, ax_modAx_self]
@[simp] theorem operating_of_inReset (f : State → State) (h : s.inReset = true) : s.operating f = s := by
  simp [State.operating, h]
@[simp] theorem operating_of_not_inReset (f : State → State) (h : s.inReset = false) : s.operating f = f s := by
  simp [State.operating, h]

end Sys2Proof.Machine
end

