-- ==== Sys2Proof/Laws/Ops.lean ====
section
/-! SUPPORT. One lemma for each shared operation that says what it can do, for proofs to cite in place of unfolding it. -/

namespace Sys2Proof.Machine

variable (s : State) (a : Axis) (m : Move)

/-! ## Slots and use counts (R10, R13) -/

@[simp] theorem allocate_axes : (s.allocate m).axes = s.axes := by
  unfold State.allocate State.modGateUse State.modProfileUse; split <;> split <;> rfl

@[simp] theorem release_axes : (s.release m).axes = s.axes := by
  unfold State.release State.modGateUse State.modProfileUse; split <;> split <;> rfl

@[simp] theorem ax_allocate : (s.allocate m).ax a = s.ax a := by simp [State.ax]

@[simp] theorem ax_release : (s.release m).ax a = s.ax a := by simp [State.ax]

@[simp] theorem allocate_poolFree : (s.allocate m).poolFree = s.poolFree - 1 := by
  unfold State.allocate State.modGateUse State.modProfileUse; split <;> split <;> rfl

@[simp] theorem release_poolFree : (s.release m).poolFree = s.poolFree + 1 := by
  unfold State.release State.modGateUse State.modProfileUse; split <;> split <;> rfl

theorem prof_modProfileUse (f : Nat → Nat) (q : ProfileNo) :
    (s.modProfileUse m f).prof q =
      if m.task.profile? = some q then { s.prof q with useCount := f (s.prof q).useCount } else s.prof q := by
  unfold State.modProfileUse
  split
  · next h => simp [h]
  · next p h =>
    rw [prof_modProf, h]
    by_cases e : q = p <;> simp [e, eq_comm]

theorem gate_modGateUse (f : Nat → Nat) (g : GateTag) :
    (s.modGateUse m f).gate g =
      if m.gate = some g then { s.gate g with useCount := f (s.gate g).useCount } else s.gate g := by
  unfold State.modGateUse
  split
  · next h => simp [h]
  · next p h =>
    rw [gate_modGate, h]
    by_cases e : g = p <;> simp [e, eq_comm]

@[simp] theorem prof_modGateUse (f : Nat → Nat) (q : ProfileNo) : (s.modGateUse m f).prof q = s.prof q := by
  unfold State.modGateUse; split <;> rfl

@[simp] theorem gate_modProfileUse (f : Nat → Nat) (g : GateTag) : (s.modProfileUse m f).gate g = s.gate g := by
  unfold State.modProfileUse; split <;> rfl

theorem prof_allocate (q : ProfileNo) :
    (s.allocate m).prof q =
      if m.task.profile? = some q then { s.prof q with useCount := (s.prof q).useCount + 1 } else s.prof q := by
  rw [State.allocate, prof_modGateUse, prof_modProfileUse]; rfl

theorem gate_allocate (g : GateTag) :
    (s.allocate m).gate g =
      if m.gate = some g then { s.gate g with useCount := (s.gate g).useCount + 1 } else s.gate g := by
  rw [State.allocate, gate_modGateUse, gate_modProfileUse]; rfl

theorem prof_release (q : ProfileNo) :
    (s.release m).prof q =
      if m.task.profile? = some q then { s.prof q with useCount := (s.prof q).useCount - 1 } else s.prof q := by
  rw [State.release, prof_modGateUse, prof_modProfileUse]; rfl

theorem gate_release (g : GateTag) :
    (s.release m).gate g =
      if m.gate = some g then { s.gate g with useCount := (s.gate g).useCount - 1 } else s.gate g := by
  rw [State.release, gate_modGateUse, gate_modProfileUse]; rfl

/-- The release of a move touches the pool and the two tables alone. -/
theorem release_eq : s.release m =
    { s with
      poolFree := (s.release m).poolFree, profiles := (s.release m).profiles, gates := (s.release m).gates } := by
  unfold State.release State.modGateUse State.modProfileUse; split <;> split <;> rfl

/-- The allocation of a slot touches the pool and the two tables alone. -/
theorem allocate_eq : s.allocate m =
    { s with
      poolFree := (s.allocate m).poolFree, profiles := (s.allocate m).profiles, gates := (s.allocate m).gates } := by
  unfold State.allocate State.modGateUse State.modProfileUse; split <;> split <;> rfl

/-! ## Steps (R21, R23, R28) -/

theorem interval_of_lt {p : Profile} {j : Nat} (h : j < p.length) :
    p.interval j = p.start - j * (p.start - p.cruise) / p.length := by simp [Profile.interval, h]

theorem interval_of_le {p : Profile} {j : Nat} (h : p.length ≤ j) : p.interval j = p.cruise := by
  simp [Profile.interval, Nat.not_lt.mpr h]

theorem decide_decel {p : Profile} {k r : Nat} (h : r ≤ k) :
    p.decide k r = { cls := .decel, interval := p.interval (r - 1) } := by simp [Profile.decide, h]

theorem decide_accel {p : Profile} {k r : Nat} (h : k < r) (hk : k < p.length) :
    p.decide k r = { cls := .accel, interval := p.interval k } := by
  simp [Profile.decide, Nat.not_le.mpr h, hk]

theorem decide_cruise {p : Profile} {k r : Nat} (h : k < r) (hk : p.length ≤ k) :
    p.decide k r = { cls := .cruise, interval := p.cruise } := by
  simp [Profile.decide, Nat.not_le.mpr h, Nat.not_lt.mpr hk]

/-- A re-plan to a count above 0 decides the pending step again and does nothing else (R28). -/
theorem replan_of_pos {r : Nat} (h : 0 < r) :
    s.replan a r = s.modAx a fun x =>
      { x with ramp := { x.ramp with r := r, step := some ((s.prof x.ramp.profile).decide x.ramp.k r) } } := by
  simp [State.replan, Nat.ne_of_gt h]

/-- A re-plan to 0 is the end of the move (R28). -/
theorem replan_zero :
    s.replan a 0 =
      (s.modAx a fun x => { x with ramp := { x.ramp with r := 0, step := none } }).endAtRest a := by
  simp [State.replan]

/-- A re-plan whose new interval has not passed emits nothing (R28). -/
theorem replanNow_of_pos {r : Nat} (h : 0 < r)
    (early : (s.ax a).ramp.elapsed < ((s.prof (s.ax a).ramp.profile).decide (s.ax a).ramp.k r).interval) :
    s.replanNow a r = s.replan a r := by
  rw [State.replanNow, replan_of_pos s a h]
  simp [Ramp.overdue, early]

/-! ## Ends and offers (R47, R48) -/

/-- The ends procedure on an axis with a current move (R47). -/
theorem endMove_of_some {m : Move} (h : (s.ax a).current = some m) (k : Finding) (aux : Nat) :
    s.endMove a k aux = ((s.modAx a AxisState.clearMove).release m).offerReport a k m.tag aux := by
  simp [State.endMove, h]

theorem endMove_of_none (h : (s.ax a).current = none) (k : Finding) (aux : Nat) : s.endMove a k aux = s := by
  simp [State.endMove, h]

theorem ax_endMove_self {m : Move} (h : (s.ax a).current = some m) (k : Finding) (aux : Nat) :
    (s.endMove a k aux).ax a =
      { (s.ax a).clearMove with
        mode := .reporting
        offer := some
          { report := { axis := a, finding := k, tag := m.tag, position := (s.ax a).position, aux := aux }
            path := k.path } } := by
  rw [endMove_of_some s a h, ax_offerReport_self, ax_release, ax_modAx_self]; rfl

theorem ax_endMove_of_ne {b : Axis} (h : b ≠ a) (k : Finding) (aux : Nat) : (s.endMove a k aux).ax b = s.ax b := by
  unfold State.endMove
  split
  · rfl
  · rw [State.offerReport, ax_modAx_of_ne _ h, ax_release, ax_modAx_of_ne _ h]

/-! ## The arbiter (R126 to R129) -/

/-- The arbiter finds nobody exactly when no axis has an undeposited report. -/
theorem nextCandidate_eq_none : s.nextCandidate = none ↔ s.NoOffers := by
  unfold State.nextCandidate State.NoOffers
  rw [List.find?_eq_none]
  constructor
  · intro h b hb
    have := h b (by cases s.reports.last <;> cases b <;> decide)
    simpa using this
  · intro h b _
    simp [h b (Axis.mem_all b)]

/-- The arbiter's choice has an undeposited report. -/
theorem offer_of_nextCandidate {b : Axis} (h : s.nextCandidate = some b) : (s.ax b).offer.isSome = true := by
  unfold State.nextCandidate at h
  simpa using List.find?_some h

theorem grantPlaces_of_noOffers (h : s.NoOffers) (n : Nat) : s.grantPlaces n = s := by
  cases n with
  | zero => rfl
  | succ n => simp [State.grantPlaces, (nextCandidate_eq_none s).mpr h]

@[simp] theorem settle_of_noOffers (h : s.NoOffers) : s.settle = s := grantPlaces_of_noOffers s h _

/-- With the Report Queue full there is no place to grant. -/
theorem settle_of_full (h : Config.reportPlaces ≤ s.reports.reports.length) : s.settle = s := by
  simp [State.settle, Nat.sub_eq_zero_of_le h, State.grantPlaces]

/-- With one free place the arbiter's choice is granted it, and nobody else. -/
theorem settle_of_one_place {b : Axis} (h : s.reports.reports.length = 15) (hb : s.nextCandidate = some b) :
    s.settle = s.grant b := by
  simp [State.settle, Config.reportPlaces, h, State.grantPlaces, hb]

/-- A grant to an axis that owes nothing and whose path is HALTED (R51, R54). -/
theorem grant_of_halted {o : Offer} {cause : HaltCause} (h : (s.ax a).offer = some o) (owed : (s.ax a).owed = none)
    (path : o.path = .halted cause) :
    s.grant a = ((s.deposit o.report).modAx a fun x => { x with offer := none }).enterHalted a cause := by
  simp [State.grant, h, owed, path, State.followPath]

/-- A grant to an axis that owes nothing and whose path is CONTINUE (R51, R53). -/
theorem grant_of_cont {o : Offer} (h : (s.ax a).offer = some o) (owed : (s.ax a).owed = none) (path : o.path = .cont) :
    s.grant a = ((s.deposit o.report).modAx a fun x => { x with offer := none }).takeNext a := by
  simp [State.grant, h, owed, path, State.followPath]

/-- A grant to an axis that owes a DRIVEFAULT (R52). -/
theorem grant_of_owed {o : Offer} {d : DriveDetail} (h : (s.ax a).offer = some o) (owed : (s.ax a).owed = some d) :
    s.grant a = ((s.deposit o.report).modAx a fun x => { x with offer := none, owed := none }).offerReport a
      (.driveFault d) 0 0 := by
  simp [State.grant, h, owed]

/-- One report with a HALTED path and room for it: the report is deposited and its axis enters HALTED (R50, R54). -/
theorem settle_of_one_halted {o : Offer} {cause : HaltCause} (h : (s.ax a).offer = some o)
    (others : ∀ b, b ≠ a → (s.ax b).offer = none) (owed : (s.ax a).owed = none) (path : o.path = .halted cause)
    (room : s.reports.reports.length < Config.reportPlaces) :
    s.settle = ((s.deposit o.report).modAx a fun x => { x with offer := none }).enterHalted a cause := by
  obtain ⟨n, hn⟩ := Nat.exists_eq_add_of_lt room
  have next : s.nextCandidate = some a := by
    cases hc : s.nextCandidate with
    | none => simpa [h] using (nextCandidate_eq_none s).mp hc a (Axis.mem_all a)
    | some b =>
      by_cases e : b = a
      · rw [e]
      · simpa [others b e] using offer_of_nextCandidate s hc
  rw [State.settle, show Config.reportPlaces - s.reports.reports.length = n + 1 by omega, State.grantPlaces, next]
  change State.grantPlaces n (s.grant a) = _
  rw [grant_of_halted s a h owed path]
  refine grantPlaces_of_noOffers _ (fun b _ => ?_) n
  rw [State.enterHalted, ax_latch, ax_modAx]
  split
  · simp
  · next e => rw [ax_modAx_of_ne _ e, ax_deposit, others b e]

/-! ## Filtered inputs (R88, R108, R114, R137) -/

/-- A pin change takes an acceptance first exactly where it changes the pin and the count has reached the filter time. -/
theorem leaves_iff (f : FilteredInput) (level : Level) (time : Nat) :
    f.leaves level time = true ↔ level ≠ f.pin ∧ ∃ us, f.count = some us ∧ time ≤ us := by
  cases h : f.count <;> simp [FilteredInput.leaves, FilteredInput.due, h]

/-- After an acceptance no count runs, so that a pin change only begins one. -/
@[simp] theorem accept_leaves (f : FilteredInput) (level : Level) (time : Nat) : f.accept.leaves level time = false := by
  simp [FilteredInput.leaves, FilteredInput.due, FilteredInput.accept]

/-- With a filter time a comparison only begins a count, where the pin differs (R108). -/
theorem compare_of_pos (f : FilteredInput) {time : Nat} (h : 0 < time) : f.compare time = f.restart := by
  by_cases e : f.pin = f.qualified <;> simp [FilteredInput.compare, FilteredInput.restart, FilteredInput.due, e, Nat.ne_of_gt h]

/-- With a filter time of 0 a comparison leaves the pin's level qualified (R88, R108). -/
theorem compare_zero (f : FilteredInput) : f.compare 0 = { f with qualified := f.pin, count := none } := by
  by_cases e : f.pin = f.qualified <;>
    simp [FilteredInput.compare, FilteredInput.restart, FilteredInput.due, FilteredInput.accept, e]

/-! ## Ends and faults with a place free or none (R50) -/

theorem endedStop_of_clear (h : s.Clear) (k : Finding) (aux : Nat) (c : HaltCause) :
    s.endedStop a m k aux c = s.endedHalted a m k aux c := if_pos h.2.2

theorem endedStop_of_full (h : s.Full) (k : Finding) (aux : Nat) (c : HaltCause) :
    s.endedStop a m k aux c = s.endedWaiting a m k aux := if_neg (by have := h.2.2; omega)

theorem endedGoOn_of_clear (h : s.Clear) (k : Finding) (aux : Nat) :
    s.endedGoOn a m k aux = s.endedContinue a m k aux := if_pos h.2.2

theorem endedGoOn_of_full (h : s.Full) (k : Finding) (aux : Nat) :
    s.endedGoOn a m k aux = s.endedWaiting a m k aux := if_neg (by have := h.2.2; omega)

theorem faulted_of_clear (h : s.Clear) (x : AxisState) (d : DriveDetail) (tag : Byte) :
    s.faulted a x d tag = s.faultedAlone a x d tag := if_pos h.2.2

theorem faulted_of_full (h : s.Full) (x : AxisState) (d : DriveDetail) (tag : Byte) :
    s.faulted a x d tag = s.faultedWaiting a x d tag := if_neg (by have := h.2.2; omega)

/-- A quiet state is clear or full (R50). -/
theorem quiet_iff : s.Quiet ↔ s.Clear ∨ s.Full := by
  constructor
  · rintro ⟨r, o, h⟩
    rcases Nat.lt_or_eq_of_le h with h | h
    · exact .inl ⟨r, o, h⟩
    · exact .inr ⟨r, o, h⟩
  · rintro (⟨r, o, h⟩ | ⟨r, o, h⟩)
    · exact ⟨r, o, Nat.le_of_lt h⟩
    · exact ⟨r, o, Nat.le_of_eq h⟩

/-! ## The mark and its re-plan (R97, R100, R101) -/

/-- A re-plan leaves the stopping distance, as SHORT, or a count of at least that distance, as EXACT or CLAMPED (R100). -/
theorem registration_cases (x : AxisState) (d : Nat) :
    (∃ n, x.registration d = (.short n, x.ramp.stoppingDistance)) ∨
    (∃ o n, x.registration d = (o, n) ∧ (o = .exact ∨ o = .clamped) ∧ x.ramp.stoppingDistance ≤ n) := by
  unfold AxisState.registration
  dsimp only
  generalize (if x.limitMax < x.position + x.ramp.dir.sign * (d : Int) then x.limitMax else
    if x.position + x.ramp.dir.sign * (d : Int) < x.limitMin then x.limitMin else x.position + x.ramp.dir.sign * d) = e
  by_cases h : x.ramp.stoppingDistance ≤ (e - x.position).natAbs
  · rw [if_pos h]
    refine .inr ⟨_, _, rfl, ?_, h⟩
    split <;> simp
  · rw [if_neg h]
    exact .inl ⟨_, rfl⟩

/-- A re-plan to 0 happens only where the stopping distance is 0 (R101). -/
theorem stoppingDistance_of_registration_zero {x : AxisState} {d : Nat} (h : (x.registration d).2 = 0) :
    x.ramp.stoppingDistance = 0 := by
  obtain ⟨n, e⟩ | ⟨o, n, e, -, le⟩ := registration_cases x d
  · simpa [e] using h
  · simp only [e] at h
    omega

/-- A re-plan to 0 acts at once (R101). -/
theorem replansAtOnce_of_zero {d : Nat} (h : ((s.ax a).registration d).2 = 0) : s.replansAtOnce a d = true := by
  simp [State.replansAtOnce, h]

/-- A re-plan to a count above 0 acts at once exactly where its new interval has passed (R28). -/
theorem replansAtOnce_of_pos {d : Nat} (h : 0 < ((s.ax a).registration d).2) :
    s.replansAtOnce a d = true ↔
      ((s.prof (s.ax a).ramp.profile).decide (s.ax a).ramp.k ((s.ax a).registration d).2).interval ≤ (s.ax a).ramp.elapsed := by
  simp [State.replansAtOnce, Nat.ne_of_gt h]

/-- With a filter time the sensor cannot leave a mark at the mark's own instant (R88). -/
theorem passMark_of_filtered (h : (s.ax a).config.filter ≠ 0) : s.passMark a = s := by simp [State.passMark, h]

/-- With a filter time of 0 the mark's step makes one free choice, and the sensor stays or leaves (R97, R101; log 25). -/
theorem passMark_cases (h : (s.ax a).config.filter = 0) :
    s.passMark a = { s with choices := s.choices + 1 } ∨
    s.passMark a =
      (({ s with choices := s.choices + 1 }).modAx a fun x =>
        let inactive := otherLevel x.config.activeLevel
        { x with sens := { pin := inactive, qualified := inactive, count := none } }).trailingEdge a := by
  unfold State.passMark
  rw [if_pos h]
  dsimp only
  split
  · exact .inr rfl
  · exact .inl rfl

end Sys2Proof.Machine
end

