-- ==== Sys2Proof/Laws/Frame.lean ====
section
/-! SUPPORT. What the engines, the gates and the Report Queue never touch, whatever they set off at one instant: the setup, the
port, the inputs and the reset line. One lemma for each shared operation, for frames of the commands to cite. -/

namespace Sys2Proof.Machine

/-- The items of an axis that no engine operation writes: its setup and its qualified inputs. -/
structure AxisState.SameSetup (x y : AxisState) : Prop where
  limitMin : y.limitMin = x.limitMin
  limitMax : y.limitMax = x.limitMax
  config : y.config = x.config
  sens : y.sens = x.sens
  flt : y.drive.flt = x.drive.flt

/-- The items of the part that no engine operation writes, and flags that it can only latch. -/
structure State.SameSetup (s t : State) : Prop where
  ax : ∀ a, (s.ax a).SameSetup (t.ax a)
  members : ∀ g, (t.gate g).members = (s.gate g).members
  timeout : ∀ g, (t.gate g).timeout = (s.gate g).timeout
  start : ∀ p, (t.prof p).start = (s.prof p).start
  cruise : ∀ p, (t.prof p).cruise = (s.prof p).cruise
  length : ∀ p, (t.prof p).length = (s.prof p).length
  stop : t.stop = s.stop
  style : t.style = s.style
  block : t.block = s.block
  cres : t.cres = s.cres
  axsel : t.axsel = s.axsel
  snapshot : t.snapshot = s.snapshot
  ienable : t.ienable = s.ienable
  dataOut : t.dataOut = s.dataOut
  inReset : t.inReset = s.inReset
  choices : t.choices = s.choices
  pending : t.pending = s.pending
  flags : ∀ i : Fin 3, s.iflag.getLsbD i = true → t.iflag.getLsbD i = true

namespace AxisState.SameSetup

theorem refl (x : AxisState) : x.SameSetup x := ⟨rfl, rfl, rfl, rfl, rfl⟩

theorem trans {x y z : AxisState} (h : x.SameSetup y) (k : y.SameSetup z) : x.SameSetup z :=
  ⟨k.1.trans h.1, k.2.trans h.2, k.3.trans h.3, k.4.trans h.4, k.5.trans h.5⟩

end AxisState.SameSetup

namespace State.SameSetup

variable {s t u : State} {a : Axis}

theorem refl (s : State) : s.SameSetup s :=
  ⟨fun _ => .refl _, fun _ => rfl, fun _ => rfl, fun _ => rfl, fun _ => rfl, fun _ => rfl, rfl, rfl, rfl, rfl, rfl, rfl,
    rfl, rfl, rfl, rfl, rfl, fun _ h => h⟩

theorem trans (h : s.SameSetup t) (k : t.SameSetup u) : s.SameSetup u where
  ax b := (h.ax b).trans (k.ax b)
  members g := (k.members g).trans (h.members g)
  timeout g := (k.timeout g).trans (h.timeout g)
  start p := (k.start p).trans (h.start p)
  cruise p := (k.cruise p).trans (h.cruise p)
  length p := (k.length p).trans (h.length p)
  stop := k.stop.trans h.stop
  style := k.style.trans h.style
  block := k.block.trans h.block
  cres := k.cres.trans h.cres
  axsel := k.axsel.trans h.axsel
  snapshot := k.snapshot.trans h.snapshot
  ienable := k.ienable.trans h.ienable
  dataOut := k.dataOut.trans h.dataOut
  inReset := k.inReset.trans h.inReset
  choices := k.choices.trans h.choices
  pending := k.pending.trans h.pending
  flags i hi := k.flags i (h.flags i hi)

theorem ite {p : Prop} [Decidable p] (h : s.SameSetup t) (k : s.SameSetup u) :
    s.SameSetup (if p then t else u) := by split <;> assumption

/-! ## The updates -/

theorem modAx (s : State) (a : Axis) (f : AxisState → AxisState) (h : (s.ax a).SameSetup (f (s.ax a))) :
    s.SameSetup (s.modAx a f) :=
  { refl s with
    ax := fun b => by
      rw [ax_modAx]
      split
      · next e => exact e ▸ h
      · exact .refl _ }

theorem modGate (s : State) (g : GateTag) (f : Gate → Gate) (hm : (f (s.gate g)).members = (s.gate g).members)
    (ht : (f (s.gate g)).timeout = (s.gate g).timeout) : s.SameSetup (s.modGate g f) :=
  { refl s with
    members := fun h => by rw [gate_modGate]; split <;> simp_all
    timeout := fun h => by rw [gate_modGate]; split <;> simp_all }

theorem latch (s : State) (flag : BitVec 3) : s.SameSetup (s.latch flag) :=
  { refl s with flags := fun i h => by simp [h] }

theorem deposit (s : State) (r : Report) : s.SameSetup (s.deposit r) :=
  { refl s with flags := fun i h => by simp [h] }

theorem release (s : State) (m : Move) : s.SameSetup (s.release m) := by
  rw [release_eq]
  exact
    { refl s with
      members := fun g => by
        have := congrArg Gate.members (gate_release s m g)
        split at this <;> exact this
      timeout := fun g => by
        have := congrArg Gate.timeout (gate_release s m g)
        split at this <;> exact this
      start := fun p => by
        have := congrArg Profile.start (prof_release s m p)
        split at this <;> exact this
      cruise := fun p => by
        have := congrArg Profile.cruise (prof_release s m p)
        split at this <;> exact this
      length := fun p => by
        have := congrArg Profile.length (prof_release s m p)
        split at this <;> exact this }

theorem offerReport (s : State) (a : Axis) (k : Finding) (tag : Byte) (aux : Nat) :
    s.SameSetup (s.offerReport a k tag aux) := modAx s a _ ⟨rfl, rfl, rfl, rfl, rfl⟩

theorem enterHalted (s : State) (a : Axis) (cause : HaltCause) : s.SameSetup (s.enterHalted a cause) :=
  (modAx s a _ ⟨rfl, rfl, rfl, rfl, rfl⟩).trans (latch _ _)

/-! ## Ends, pulses and stops -/

theorem endMove (s : State) (a : Axis) (k : Finding) (aux : Nat) : s.SameSetup (s.endMove a k aux) := by
  unfold State.endMove
  split
  · exact refl s
  · exact ((modAx s a _ ⟨rfl, rfl, rfl, rfl, rfl⟩).trans (release _ _)).trans (offerReport _ _ _ _ _)

theorem endAtRest (s : State) (a : Axis) : s.SameSetup (s.endAtRest a) := by
  unfold State.endAtRest
  dsimp only
  split <;> first | exact endMove _ _ _ _ | exact refl s

theorem replan (s : State) (a : Axis) (r : Nat) : s.SameSetup (s.replan a r) := by
  unfold State.replan
  split
  · exact (modAx s a _ ⟨rfl, rfl, rfl, rfl, rfl⟩).trans (endAtRest _ _)
  · exact modAx s a _ ⟨rfl, rfl, rfl, rfl, rfl⟩

theorem driveOfPulse (d : DriveCheck) (readback : Bool) : (d.pulse readback).flt = d.flt := by
  unfold DriveCheck.pulse DriveCheck.endHigh
  dsimp only
  split
  · split <;> rfl
  · rfl

theorem pulse (s : State) (a : Axis) : s.SameSetup (s.pulse a) := by
  unfold State.pulse
  split
  · exact refl s
  · next st _ =>
    have emit : s.SameSetup (s.modAx a (·.emit st)) := modAx s a _ ⟨rfl, rfl, rfl, rfl, driveOfPulse _ _⟩
    dsimp only
    split
    · exact emit.trans (endAtRest _ _)
    · split
      · exact (emit.trans (modAx _ a _ ⟨rfl, rfl, rfl, rfl, rfl⟩)).trans (replan _ _ _)
      · exact emit.trans (replan _ _ _)

theorem replanNow (s : State) (a : Axis) (r : Nat) : s.SameSetup (s.replanNow a r) := by
  unfold State.replanNow
  dsimp only
  split
  · exact (replan s a r).trans (pulse _ _)
  · exact replan s a r

theorem controlledStop (s : State) (a : Axis) (intent : Option Finding) : s.SameSetup (s.controlledStop a intent) := by
  unfold State.controlledStop
  cases intent with
  | none => exact replanNow _ _ _
  | some k => exact (modAx s a _ ⟨rfl, rfl, rfl, rfl, rfl⟩).trans (replanNow _ _ _)

/-! ## Starts, gates and takes -/

theorem driveOfDir (d : DriveCheck) (level : Level) : (d.driveDir level).flt = d.flt := by
  unfold DriveCheck.driveDir; split <;> rfl

theorem startMove (s : State) (a : Axis) : s.SameSetup (s.startMove a) := by
  unfold State.startMove
  dsimp only
  split
  · exact refl s
  · split
    · exact modAx s a _ ⟨rfl, rfl, rfl, rfl, rfl⟩
    · split
      · exact (modAx s a _ ⟨rfl, rfl, rfl, rfl, rfl⟩).trans (endMove _ _ _ _)
      · exact modAx s a _ ⟨rfl, rfl, rfl, rfl, driveOfDir _ _⟩
    all_goals
      split
      · exact endMove _ _ _ _
      · exact modAx s a _ ⟨rfl, rfl, rfl, rfl, driveOfDir _ _⟩

theorem forAxes {f : Axis → State → State} (h : ∀ (a : Axis) (s : State), s.SameSetup (f a s)) (s : State) :
    s.SameSetup (State.forAxes f s) :=
  (((h .A s).trans (h .B _)).trans (h .C _)).trans (h .D _)

theorem fireGate (s : State) (g : GateTag) : s.SameSetup (s.fireGate g) := by
  unfold State.fireGate
  exact (modGate s g _ rfl rfl).trans (forAxes (fun a s => ite (startMove s a) (refl s)) _)

theorem arrive (s : State) (a : Axis) (g : GateTag) : s.SameSetup (s.arrive a g) := by
  unfold State.arrive
  dsimp only
  have there : s.SameSetup ((s.modAx a fun x =>
      { x with mode := .gated, ramp := { x.ramp with stepsRun := 0 } }).modGate g (·.arrive a)) :=
    (modAx s a _ ⟨rfl, rfl, rfl, rfl, rfl⟩).trans (modGate _ g _ rfl rfl)
  split
  · exact there.trans (fireGate _ _)
  · exact there

theorem withdraw (s : State) (a : Axis) : s.SameSetup (s.withdraw a) := by
  unfold State.withdraw
  split
  · exact refl s
  · exact modGate _ _ _ rfl rfl

theorem take (s : State) (a : Axis) (m : Move) : s.SameSetup (s.take a m) := by
  unfold State.take
  dsimp only
  refine (modAx s a (fun x => { x with current := some m, plannedEnd := m.task.plannedEnd x.position })
    ⟨rfl, rfl, rfl, rfl, rfl⟩).trans ?_
  split
  · exact endMove _ _ _ _
  · split
    · exact arrive _ _ _
    · exact startMove _ _

theorem takeNext (s : State) (a : Axis) : s.SameSetup (s.takeNext a) := by
  unfold State.takeNext
  split
  · exact modAx s a _ ⟨rfl, rfl, rfl, rfl, rfl⟩
  · exact (modAx s a _ ⟨rfl, rfl, rfl, rfl, rfl⟩).trans (take _ _ _)

/-! ## Grants -/

theorem followPath (s : State) (a : Axis) (p : Path) : s.SameSetup (s.followPath a p) := by
  cases p with
  | cont => exact takeNext s a
  | halted c => exact enterHalted s a c

theorem grant (s : State) (a : Axis) : s.SameSetup (s.grant a) := by
  unfold State.grant
  split
  · exact refl s
  · next o _ =>
    have done : s.SameSetup ((s.deposit o.report).modAx a fun x => { x with offer := none }) :=
      (deposit s _).trans (modAx _ a _ ⟨rfl, rfl, rfl, rfl, rfl⟩)
    dsimp only
    split
    · exact (done.trans (modAx _ a _ ⟨rfl, rfl, rfl, rfl, rfl⟩)).trans (offerReport _ _ _ _ _)
    · exact done.trans (followPath _ _ _)

theorem grantPlaces (n : Nat) (s : State) : s.SameSetup (s.grantPlaces n) := by
  induction n generalizing s with
  | zero => exact refl s
  | succ n ih =>
    rw [State.grantPlaces]
    split
    · exact refl s
    · exact (grant s _).trans (ih _)

theorem settle (s : State) : s.SameSetup s.settle := grantPlaces _ s

/-! ## Stops, faults and edges -/

theorem stopAxis (source : StopSource) (a : Axis) (s : State) : s.SameSetup (State.stopAxis source a s) := by
  unfold State.stopAxis
  dsimp only
  split
  · split
    · exact controlledStop _ _ _
    · exact endMove _ _ _ _
  · split
    · exact controlledStop _ _ _
    · exact endMove _ _ _ _
  · split
    · exact controlledStop _ _ _
    · exact endMove _ _ _ _
  · exact endMove _ _ _ _
  · exact ((withdraw s a).trans (modAx _ a _ ⟨rfl, rfl, rfl, rfl, rfl⟩)).trans (enterHalted _ _ _)
  · exact enterHalted _ _ _
  · exact modAx s a _ ⟨rfl, rfl, rfl, rfl, rfl⟩
  all_goals exact refl s

theorem stopAll (s : State) (source : StopSource) : s.SameSetup (s.stopAll source) :=
  forAxes (fun a s => stopAxis source a s) s

theorem driveFault (s : State) (a : Axis) (d : DriveDetail) : s.SameSetup (s.driveFault a d) := by
  have caused : s.SameSetup (s.modAx a fun x => { x with cause := .drive }) := modAx s a _ ⟨rfl, rfl, rfl, rfl, rfl⟩
  unfold State.driveFault
  dsimp only
  split
  · exact refl s
  all_goals try exact caused.trans (endMove _ _ _ _)
  · exact ((caused.trans (withdraw _ a)).trans (modAx _ a _ ⟨rfl, rfl, rfl, rfl, rfl⟩)).trans (offerReport _ _ _ _ _)
  all_goals first
    | exact caused.trans (offerReport _ _ _ _ _)
    | exact caused.trans (modAx _ a _ ⟨rfl, rfl, rfl, rfl, rfl⟩)

theorem examine (a : Axis) (s : State) : s.SameSetup (State.examine a s) := by
  unfold State.examine
  dsimp only
  have stopped : s.SameSetup
      (if s.stop.qualified = .low ∧ (s.ax a).mode = .idle then s.enterHalted a .stopLine else s) := by
    split
    · exact enterHalted _ _ _
    · exact refl s
  generalize (if s.stop.qualified = .low ∧ (s.ax a).mode = .idle then s.enterHalted a .stopLine else s) = u at *
  split
  · exact stopped.trans (driveFault _ _ _)
  · exact stopped

theorem register (s : State) (a : Axis) (d : Nat) : s.SameSetup (s.register a d) := by
  unfold State.register
  exact (modAx s a _ ⟨rfl, rfl, rfl, rfl, rfl⟩).trans (replanNow _ _ _)

theorem trailingEdge (s : State) (a : Axis) : s.SameSetup (s.trailingEdge a) := by
  unfold State.trailingEdge
  dsimp only
  split
  · exact modAx s a _ ⟨rfl, rfl, rfl, rfl, rfl⟩
  · exact refl s

/-- A state with another SENS input on one axis and another count of free choices. -/
def withSens (s : State) (a : Axis) (n : Nat) (f : FilteredInput) : State :=
  { s with choices := n }.modAx a fun x => { x with sens := f }

theorem withSens_self (s : State) (a : Axis) : s.SameSetup (withSens s a s.choices (s.ax a).sens) :=
  modAx s a _ ⟨rfl, rfl, rfl, rfl, rfl⟩

theorem of_withSens_self {n : Nat} {f : FilteredInput} (hn : n = s.choices) (hf : f = (s.ax a).sens) (h : s.SameSetup t) :
    (withSens s a n f).SameSetup t := by
  subst hn hf
  refine trans { refl s with ax := fun b => ?_ } h
  rw [withSens, ax_modAx]
  split
  · next e => subst e; exact ⟨rfl, rfl, rfl, rfl, rfl⟩
  · exact .refl _

theorem withSens_mono (h : s.SameSetup t) (n : Nat) (f : FilteredInput) :
    (withSens s a n f).SameSetup (withSens t a n f) :=
  { h with
    choices := rfl
    ax := fun b => by
      rw [withSens, withSens, ax_modAx, ax_modAx]
      split
      · next e => subst e; exact { h.ax b with sens := rfl }
      · exact h.ax b }

/-- The sensor passing a mark moves the SENS input of its axis and the count of free choices, with a filter time of 0 alone. -/
theorem passMark (s : State) (a : Axis) :
    ∃ n f, ((s.ax a).config.filter ≠ 0 → n = s.choices ∧ f = (s.ax a).sens) ∧ (withSens s a n f).SameSetup (s.passMark a) := by
  unfold State.passMark
  split
  · next h =>
    dsimp only
    split
    · exact ⟨s.choices + 1, _, fun k => absurd h k, trailingEdge _ a⟩
    · exact ⟨s.choices + 1, (s.ax a).sens, fun k => absurd h k, of_withSens_self (s := { s with choices := s.choices + 1 }) rfl rfl (refl _)⟩
  · exact ⟨s.choices, _, fun _ => ⟨rfl, rfl⟩, of_withSens_self rfl rfl (refl s)⟩

/-- A leading edge leaves the setup, but that the sensor of its axis can pass the mark (`passMark`). -/
theorem leadingEdge (s : State) (a : Axis) :
    ∃ n f, ((s.ax a).config.filter ≠ 0 → n = s.choices ∧ f = (s.ax a).sens) ∧
      (withSens s a n f).SameSetup (s.leadingEdge a) := by
  have same {t : State} (h : s.SameSetup t) : ∃ n f, ((s.ax a).config.filter ≠ 0 → n = s.choices ∧ f = (s.ax a).sens) ∧
      (withSens s a n f).SameSetup t := ⟨s.choices, _, fun _ => ⟨rfl, rfl⟩, of_withSens_self rfl rfl h⟩
  have mark (f : AxisState → AxisState) (d : Nat) (c : Bool) (h : (s.ax a).SameSetup (f (s.ax a))) :
      ∃ n g, ((s.ax a).config.filter ≠ 0 → n = s.choices ∧ g = (s.ax a).sens) ∧
        (withSens s a n g).SameSetup
          ((if c then (s.modAx a f).passMark a else s.modAx a f).register a d) := by
    have m : s.SameSetup (s.modAx a f) := modAx s a f h
    split
    · obtain ⟨n, g, k, e⟩ := passMark (s.modAx a f) a
      refine ⟨n, g, fun hf => ?_, ((withSens_mono m n g).trans e).trans (register _ _ _)⟩
      rw [ax_modAx_self, h.config, h.sens] at k
      exact k hf
    · exact same (m.trans (register _ _ _))
  unfold State.leadingEdge
  dsimp only
  split
  · split
    · split
      · exact same ((modAx s a _ ⟨rfl, rfl, rfl, rfl, rfl⟩).trans (controlledStop _ _ _))
      · exact same (refl s)
    all_goals try exact same (refl s)
    all_goals
      split
      · split
        · exact same (modAx s a _ ⟨rfl, rfl, rfl, rfl, rfl⟩)
        · exact mark _ _ _ ⟨rfl, rfl, rfl, rfl, rfl⟩
      · exact same (refl s)
  · exact same (refl s)

end State.SameSetup

end Sys2Proof.Machine
end

