-- ==== Sys2Proof/Laws/PerInstr.lean ====
section
/-! SUPPORT. Statements about every command as syntax, one lemma for each constructor. -/

namespace Sys2Proof.Laws.Sources

/-- A command that is a bus write is no bus read, and the write or read it is stands at an offset of its own (R152). -/
def Statement (i : Instr) : Prop :=
  (i.busBytes.isSome = true → ∀ offset, busRead offset ≠ some i) ∧
  ∀ o₁ o₂, busRead o₁ = some i → busRead o₂ = some i → o₁ = o₂

/-- The two reads that are commands stand at two offsets. -/
theorem busRead_eq {offset : Offset} {i : Instr} (h : busRead offset = some i) :
    i = .axpos0Read ∧ offset = 0x09 ∨ i = .rdataRead ∧ offset = 0x0D := by
  unfold busRead at h
  split at h
  · next e => exact .inl ⟨(Option.some.inj h).symm, e⟩
  · split at h
    · next e => exact .inr ⟨(Option.some.inj h).symm, e⟩
    · cases h

/-- A command that no read is. -/
theorem of_not_read {i : Instr} (ha : i ≠ .axpos0Read) (hr : i ≠ .rdataRead) : Statement i := by
  have none : ∀ offset, busRead offset ≠ some i := fun offset h => by
    obtain ⟨rfl, -⟩ | ⟨rfl, -⟩ := busRead_eq h
    · exact ha rfl
    · exact hr rfl
  exact ⟨fun _ => none, fun o₁ _ h => absurd h (none o₁)⟩

theorem post : Statement .post := of_not_read (by simp) (by simp)

theorem abort : Statement .abort := of_not_read (by simp) (by simp)

theorem flush : Statement .flush := of_not_read (by simp) (by simp)

theorem resume : Statement .resume := of_not_read (by simp) (by simp)

theorem setpos : Statement .setpos := of_not_read (by simp) (by simp)

theorem limits : Statement .limits := of_not_read (by simp) (by simp)

theorem axconfig : Statement .axconfig := of_not_read (by simp) (by simp)

theorem axquery : Statement .axquery := of_not_read (by simp) (by simp)

theorem profile : Statement .profile := of_not_read (by simp) (by simp)

theorem profquery : Statement .profquery := of_not_read (by simp) (by simp)

theorem gateset : Statement .gateset := of_not_read (by simp) (by simp)

theorem gateclear : Statement .gateclear := of_not_read (by simp) (by simp)

theorem gatequery : Statement .gatequery := of_not_read (by simp) (by simp)

theorem pop : Statement .pop := of_not_read (by simp) (by simp)

theorem haltall : Statement .haltall := of_not_read (by simp) (by simp)

theorem softreset : Statement .softreset := of_not_read (by simp) (by simp)

theorem badCommand (code : Byte) : Statement (.badCommand code) := of_not_read (by simp) (by simp)

theorem axpos0Read : Statement .axpos0Read :=
  ⟨fun h => absurd h (by decide), fun _ _ h k => by
    obtain ⟨e, rfl⟩ | ⟨e, rfl⟩ := busRead_eq h <;> obtain ⟨f, rfl⟩ | ⟨f, rfl⟩ := busRead_eq k <;>
      first | rfl | contradiction⟩

theorem rdataRead : Statement .rdataRead :=
  ⟨fun h => absurd h (by decide), fun _ _ h k => by
    obtain ⟨e, rfl⟩ | ⟨e, rfl⟩ := busRead_eq h <;> obtain ⟨f, rfl⟩ | ⟨f, rfl⟩ := busRead_eq k <;>
      first | rfl | contradiction⟩

theorem iflagWrite (value : Byte) : Statement (.iflagWrite value) := of_not_read (by simp) (by simp)

theorem windowWrite (offset : Offset) (value : Byte) : Statement (.windowWrite offset value) := of_not_read (by simp) (by simp)

theorem hardwareReset : Statement .hardwareReset := of_not_read (by simp) (by simp)

theorem resetRelease : Statement .resetRelease := of_not_read (by simp) (by simp)

theorem stepPulse (axis : Axis) : Statement (.stepPulse axis) := of_not_read (by simp) (by simp)

theorem stepHighTimeEnd (axis : Axis) : Statement (.stepHighTimeEnd axis) := of_not_read (by simp) (by simp)

theorem readbackSample (axis : Axis) (step : Level) (dir : Level) : Statement (.readbackSample axis step dir) := of_not_read (by simp) (by simp)

theorem dwellExpiry (axis : Axis) : Statement (.dwellExpiry axis) := of_not_read (by simp) (by simp)

theorem gateTimerExpiry (gate : GateTag) : Statement (.gateTimerExpiry gate) := of_not_read (by simp) (by simp)

theorem gateFire (gate : GateTag) : Statement (.gateFire gate) := of_not_read (by simp) (by simp)

theorem placeGranted : Statement .placeGranted := of_not_read (by simp) (by simp)

theorem sensPinChange (axis : Axis) (level : Level) : Statement (.sensPinChange axis level) := of_not_read (by simp) (by simp)

theorem leadingEdge (axis : Axis) : Statement (.leadingEdge axis) := of_not_read (by simp) (by simp)

theorem trailingEdge (axis : Axis) : Statement (.trailingEdge axis) := of_not_read (by simp) (by simp)

theorem fltPinChange (axis : Axis) (level : Level) : Statement (.fltPinChange axis level) := of_not_read (by simp) (by simp)

theorem fltAssertion (axis : Axis) : Statement (.fltAssertion axis) := of_not_read (by simp) (by simp)

theorem fltDeassertion (axis : Axis) : Statement (.fltDeassertion axis) := of_not_read (by simp) (by simp)

theorem stopPinChange (level : Level) : Statement (.stopPinChange level) := of_not_read (by simp) (by simp)

theorem stopAssertion : Statement .stopAssertion := of_not_read (by simp) (by simp)

theorem stopDeassertion : Statement .stopDeassertion := of_not_read (by simp) (by simp)

end Sys2Proof.Laws.Sources
end

