-- ==== Sys2Proof/Laws/Step.lean ====
section
/-! SUPPORT. What one step can do, and the induction that turns a property of every command into one of every step. -/

namespace Sys2Proof.Machine

/-- The event that a step takes from those due is one of them, on the state as it stands but for the count of ties (log 3). -/
theorem nextDue_cases {s u : State} {c : Instr} (h : s.nextDue = some (c, u)) :
    c ∈ s.dueEvents ∧ (u = s ∨ u = { s with choices := s.choices + 1 }) := by
  unfold State.nextDue at h
  split at h
  · cases h
  · next d e =>
    cases h
    exact ⟨by simp [e], .inl rfl⟩
  · next d rest _ e =>
    cases h
    refine ⟨?_, .inr rfl⟩
    rw [e, List.getD_eq_getElem?_getD]
    cases k : (d :: rest)[Config.dueChoice s.choices % (rest.length + 1)]? with
    | none => simp
    | some x => exact List.mem_of_getElem? k

/-- A step runs the front command, or, with none waiting, an event that is due, or lets 1 µs pass. -/
theorem step_cases {s t : State} (h : step s = .next t) :
    (∃ c rest, s.pending = c :: rest ∧ exec c { s with pending := rest } = .next t) ∨
    (s.pending = [] ∧ ∃ c u, c ∈ s.dueEvents ∧ (u = s ∨ u = { s with choices := s.choices + 1 }) ∧ exec c u = .next t) ∨
    (s.pending = [] ∧ s.nextDue = none ∧ t = s.tick) := by
  unfold step at h
  split at h
  · next c rest e => exact .inl ⟨c, rest, e, h⟩
  · next e =>
    split at h
    · next c u k => exact .inr (.inl ⟨e, c, u, (nextDue_cases k).1, (nextDue_cases k).2, h⟩)
    · next k =>
      cases h
      exact .inr (.inr ⟨e, k, rfl⟩)

/-- A property that ignores the queue and the count of ties, and that every command and the passing of 1 µs keep, is kept by
every step. -/
theorem step_keeps {P : State → Prop} (queue : ∀ s l, P s → P { s with pending := l })
    (ties : ∀ s n, P s → P { s with choices := n }) (command : ∀ c s t, P s → exec c s = .next t → P t)
    (time : ∀ s, P s → P s.tick) {s t : State} (hs : P s) (h : step s = .next t) : P t := by
  obtain ⟨c, rest, -, e⟩ | ⟨-, c, u, -, hu, e⟩ | ⟨-, -, rfl⟩ := step_cases h
  · exact command c _ t (queue s rest hs) e
  · refine command c u t ?_ e
    obtain rfl | rfl := hu
    · exact hs
    · exact ties s _ hs
  · exact time s hs

/-- The axis after 1 µs, while the part operates. -/
theorem ax_tick (s : State) (a : Axis) (h : s.inReset = false) : s.tick.ax a = (s.ax a).tick :=
  ax_mapAxes s (t := s.tick) (by simp [State.tick, State.operating, h]) a

/-- The gate record after 1 µs, while the part operates. -/
theorem gate_tick (s : State) (g : GateTag) (h : s.inReset = false) :
    s.tick.gate g = { s.gate g with timer := (s.gate g).timer.map (· - 1) } :=
  gate_mapGates s (t := s.tick) (f := fun q => { q with timer := q.timer.map (· - 1) })
    (by simp [State.tick, State.operating, h]) g

/-- An axis, a gate record and a profile entry after a soft reset, before the examination of the inputs. -/
theorem softReset_items (s : State) (a : Axis) (g : GateTag) (p : ProfileNo) :
    s.softReset.ax a = (s.ax a).softReset ∧
    s.softReset.gate g = { s.gate g with arrivals := 0, timer := none, useCount := 0 } ∧
    s.softReset.prof p = { s.prof p with useCount := 0 } :=
  ⟨ax_mapAxes s rfl a,
    gate_mapGates s (f := fun q => { q with arrivals := 0, timer := none, useCount := 0 }) rfl g,
    prof_mapProfs s (f := fun q => { q with useCount := 0 }) rfl p⟩

/-- An axis held in a hardware reset. -/
theorem ax_hardReset (s : State) (a : Axis) : s.hardReset.ax a = (s.ax a).hardReset := ax_mapAxes s rfl a

/-- An axis at the release of a hardware reset. -/
theorem ax_releaseReset (s : State) (a : Axis) : s.releaseReset.ax a = (s.ax a).restartFilters := ax_mapAxes s rfl a

/-- Time stands while /RESET is held low. -/
theorem tick_of_inReset (s : State) (h : s.inReset = true) : s.tick = s := by
  simp [State.tick, State.operating, h]

end Sys2Proof.Machine
end

