-- ==== Sys2Proof/Tests/Slice0.lean ====
section
/-! SUPPORT. Tests: ill-formed terms, bus writes of Table 9-2, single steps with values from the manual's examples, and for each
statement with hypotheses a state and operands that meet them. -/

namespace Sys2Proof.Tests

open Sys2Proof.Machine

/-! ## Small states -/

/-- The state an outcome leads to. -/
def after (o : Host.Outcome State Fault Refusal) : State :=
  match o with
  | .next t => t
  | .fault _ | .refused _ => State.reset

/-- Axis A changed, in the state after reset with profile 2 as in section 2.8 of the manual: S 2000, C 500, L 4. -/
def withA (f : AxisState → AxisState) : State :=
  (State.reset.modProf 2 fun q => { q with start := 2000, cruise := 500, length := 4 }).modAx .A fun x =>
    f { x with mode := .idle, config := { x.config with enable := true } }

/-- Axis A enabled and IDLE. -/
def idle : State := withA id

/-- A record of Table 9-4 with a small positive value, on profile 2. -/
def record (kind flags value gate : Byte) : Vector Byte 16 :=
  #v[kind, flags, value, 0, 0, 2, gate, 0x41, 1, 0, 3, 0, 2, 0, 0, 0]

/-- A state with a record in the parameter block. -/
def holding (s : State) (b : Vector Byte 16) : State := { s with block := b }

/-- A move on profile 2 without gate. -/
def plainMove (v : Int) : Move := { task := .relative v 2 none, gate := none, tag := 0x41 }

/-- A ramp state on profile 2, its step decided by R23. -/
def rampAt (k r stepsRun elapsed : Nat) : Ramp :=
  { profile := 2, k := k, r := r, stepsRun := stepsRun, dir := .plus
    step := some (Profile.decide { start := 2000, cruise := 500, length := 4, useCount := 0 } k r), elapsed := elapsed }

/-- Axis A running a move. -/
def running (m : Move) (mode : Mode) (ρ : Ramp) : State :=
  withA fun x => { x with mode := mode, current := some m, ramp := ρ }

/-- Axis A running a move with a SENS count in progress for the active level. -/
def sensing (m : Move) (mode : Mode) (ρ : Ramp) (μ : MarkItems) : State :=
  withA fun x =>
    { x with
      mode := mode, current := some m, ramp := ρ, mark := μ
      sens := { pin := .high, qualified := .low, count := some 20 } }

/-- Axis A with a /FLT count in progress for the low level. -/
def faulty (f : AxisState → AxisState) : State :=
  withA fun x => f { x with drive := { x.drive with flt := { pin := .low, qualified := .high, count := some 10 } } }

/-- A gate as a state has it. -/
def gated (s : State) (members arrivals : AxisSet) (timeout : Nat) (timer : Option Nat) : State :=
  s.modGate 0 fun q => { q with members := members, arrivals := arrivals, timeout := timeout, timer := timer }

/-- A move with the tag of gate 1. -/
def gatedMove : Move := { plainMove 5 with gate := some 0 }

/-- Axis A GATED at gate 1. -/
def waiting : State :=
  withA fun x => { x with mode := .gated, current := some gatedMove, plannedEnd := some 5 }

/-- Axis A GATED at gate 1, from position 0, with another task. -/
def waitingFor (t : Task) : State :=
  withA fun x => { x with mode := .gated, current := some { gatedMove with task := t }, plannedEnd := t.plannedEnd 0 }

/-- A report of axis A. -/
def sample : Report := { axis := .A, finding := .done .plain, tag := 0x41, position := 5, aux := 0 }

/-- A Report Queue with n reports. -/
def backed (n : Nat) (s : State) : State :=
  { s with
    reports :=
      { reports := (List.range n).map fun i => { seq := BitVec.ofNat 8 i, report := sample }
        seq := BitVec.ofNat 8 n, last := .A, pointer := 0 } }

/-- Axis A in REPORTING. -/
def reporting (p : Path) (owed : Option DriveDetail) : State :=
  withA fun x => { x with mode := .reporting, offer := some { report := sample, path := p }, owed := owed }

/-- A move that expects a mark from its start and stops at it. -/
def atOnce : Move :=
  { plainMove 11 with task := .relative 11 2 (some { start := 0, length := 3, stopDistance := some 0 }) }

/-- A readback sample outstanding on axis A. -/
def sampled (f : AxisState → AxisState) : State :=
  withA fun x => f { x with drive := { x.drive with stepHigh := some 4, sample := some { elapsed := 4, dir := .high } } }

/-! ## Terms that spell no command, and bus writes (Table 9-2) -/

theorem test_known_code_is_no_bad_command : (Instr.badCommand 0x01).wf = false := by decide
theorem test_window_write_of_CMD_is_ill_formed : (Instr.windowWrite 0x01 0x20).wf = false := by decide
theorem test_window_write_of_IFLAG_is_ill_formed : (Instr.windowWrite 0x04 0x07).wf = false := by decide
theorem test_ill_formed_terms_are_refused :
    exec (.badCommand 0x01) idle = .refused .illFormed ∧ exec (.windowWrite 0x01 0x20) idle = .refused .illFormed :=
  ⟨rfl, rfl⟩

theorem test_axis_commands : busWrite 0x01 0x01 = .post ∧ busWrite 0x01 0x04 = .resume := by decide
theorem test_shared_commands : busWrite 0x01 0x20 = .pop ∧ busWrite 0x01 0x5A = .softreset := by decide
theorem test_unknown_code : busWrite 0x01 0x00 = .badCommand 0x00 := by decide
theorem test_port_writes : busWrite 0x04 0x05 = .iflagWrite 0x05 ∧ busWrite 0x06 0x02 = .windowWrite 0x06 0x02 := by
  decide
theorem test_port_reads : busRead 0x09 = some .axpos0Read ∧ busRead 0x0D = some .rdataRead ∧ busRead 0x00 = none := by
  decide

/-! ## Single steps with the manual's values -/

/-- Section 2.8: I(3) of profile 2 is 875 µs. -/
theorem test_interval : Profile.interval { start := 2000, cruise := 500, length := 4, useCount := 0 } 3 = 875 := by decide

/-- Section 2.8, a controlled stop in cruise: k = 4, r = 6, 150 µs after pulse 5: r becomes 4 and the step DECEL at 875. -/
theorem test_abort_in_cruise :
    ((after (exec .abort (running (plainMove 11) .cruise (rampAt 4 6 5 150)))).ax .A).ramp.step =
      some { cls := .decel, interval := 875 } := by decide

/-- Section 2.8, a short move, pulse 4: decided from (3, 2), it leaves k 1, r 1. -/
theorem test_pulse_of_a_short_move :
    let x := (after (exec (.stepPulse .A) (running (plainMove 5) .accel (rampAt 3 2 3 1625)))).ax .A
    x.ramp.k = 1 ∧ x.ramp.r = 1 ∧ x.mode = .decel ∧ x.position = 1 := by decide

/-- Section 3.10: RELATIVE −1500 at 1200 with limits 0 and 5000 ends with LIMIT MIN and gives its slot back. -/
theorem test_post_outside_limits :
    let s := withA fun x => { x with position := 1200, limitMin := 0, limitMax := 5000 }
    let t := after (exec .post (holding s #v[2, 0, 0x24, 0xFA, 0xFF, 2, 0, 0x31, 0, 0, 0, 0, 0, 0, 0, 0]))
    (t.ax .A).mode = .halted ∧ (t.ax .A).cause = .limit ∧ t.poolFree = 32 ∧
      t.reports.reports.map (·.report.finding) = [.limit .min] := by decide

/-- R5: a DWELL whose profile byte holds 0Ch is accepted, and adds to no use count. -/
theorem test_post_of_a_dwell :
    let t := after (exec .post (holding idle #v[4, 0, 2, 0, 0, 0x0C, 0, 1, 0, 0, 0, 0, 0, 0, 0, 0]))
    t.cres = .ok ∧ (t.ax .A).mode = .dwelling ∧ (t.ax .A).dwell = 2000 := by decide

/-- R21, R33: PROFQUERY 2 answers 2, S 2000, C 500, L 4. -/
theorem test_profquery :
    (after (exec .profquery (holding idle (record 2 0 0 0)))).block.toList.take 8 = [2, 0xD0, 0x07, 0xF4, 0x01, 4, 0, 0] := by
  decide

/-- R131: the byte at 10 is followed by the byte at 0. -/
theorem test_rdata_wraps :
    let s := backed 1 idle
    (after (exec .rdataRead { s with reports := { s.reports with pointer := 10 } })).reports.pointer = 0 := by decide

/-- R121: a soft reset drives STEP and DIR low at once. -/
theorem test_softreset_cuts_the_pulse :
    let s := withA fun x => { x with drive := { x.drive with stepHigh := some 2, dir := .high } }
    let d := ((after (exec .softreset s)).ax .A).drive
    d.step = .low ∧ d.dir = .low := by decide

/-- R163: a write of 05h clears REPORT and STOPIN and leaves HALT. -/
theorem test_iflag_write : (after (exec (.iflagWrite 0x05) { idle with iflag := 7 })).iflag = 2 := by decide

/-- R103: a seek's edge at k = 0 ends the seek at once, with the counter at 0 after set-zero. -/
theorem test_seek_edge_at_the_start :
    let m : Move := { task := .seek 9 2 true, gate := none, tag := 0x41 }
    let s := sensing m .accel (rampAt 0 9 0 0) { MarkItems.empty with search := .armed }
    let t := after (exec (.leadingEdge .A) (s.modAx .A fun x => { x with position := 700 }))
    (t.ax .A).mode = .idle ∧ (t.ax .A).position = 0 ∧ t.reports.reports.map (·.report.finding) = [.done .edge] := by decide

/-- R76, R41: a gate with one member fires at its arrival. -/
theorem test_gate_of_one_member_fires :
    let t := after (exec .post (holding (gated idle 1 0 50 none) (record 2 0 5 1)))
    (t.ax .A).mode = .accel ∧ (t.gate 0).arrivals = 0 ∧ (t.gate 0).timer = none := by decide

/-- R101: a mark with stop distance 0 before the first pulse ends the move at once. The filter time is 20 µs, so that no
trailing edge can share the instant. -/
theorem test_mark_before_the_first_pulse :
    let t := after (exec (.leadingEdge .A) (sensing atOnce .accel (rampAt 0 11 0 0) { MarkItems.empty with window := .opened }))
    (t.ax .A).mode = .idle ∧ t.reports.reports.map (·.report.finding) = [.done .markOpen] := by decide

/-- R101: with a filter time of 0, a sensor that passes the mark ends its width at 0. -/
theorem test_sensor_passes_the_mark (h : Config.markPasses 0 = true) :
    let μ : MarkItems := { MarkItems.empty with window := .found, width := .counting }
    let s := (sensing atOnce .accel (rampAt 0 11 0 0) μ).modAx .A fun x => { x with config := { x.config with filter := 0 } }
    ((s.passMark .A).ax .A).mark.finding 0 = (.done .mark, 0) := by
  intro μ s
  have hc : Config.markPasses s.choices = true := h
  simp only [State.passMark, if_pos hc, if_pos (show (s.ax .A).config.filter = 0 by decide)]
  decide

/-- R28, R97: a mark 1700 µs after the last pulse makes r 2 and the interval I(1) = 1625 µs, so the pulse comes at once, and a
trailing edge that the sensor makes at that instant leaves it out of the width. -/
theorem test_pulse_at_the_mark (h : Config.markPasses 0 = true) :
    let m : Move := { plainMove 11 with task := .relative 11 2 (some { start := 1, length := 3, stopDistance := some 2 }) }
    let s := sensing m .decel (rampAt 2 1 10 1700) { MarkItems.empty with window := .found, width := .counting }
    let u := s.modAx .A fun x => { x with config := { x.config with filter := 0 } }
    s.replansAtOnce .A 2 = true ∧ ((s.register .A 2).ax .A).mark.widthCount = 1 ∧
    (((u.passMark .A).register .A 2).ax .A).mark.widthCount = 0 := by
  intro m s u
  have hc : Config.markPasses u.choices = true := h
  simp only [State.passMark, if_pos hc, if_pos (show (u.ax .A).config.filter = 0 by decide)]
  decide

/-- R109: AXIN shows the pins as they are at the read, whatever is driven and whatever the check found. -/
theorem test_axin_shows_the_pins :
    idle.readLocation { step := .high, dir := .low } 0x0C = 0x1C ∧
    idle.readLocation { step := .low, dir := .high } 0x0C = 0x2C := by decide

/-- R88: a level shown for the whole 20 µs is accepted, also where the pin leaves it at that instant; 1 µs sooner it is not. -/
theorem test_whole_filter_time_is_accepted :
    let m : Move := { plainMove 11 with task := .relative 11 2 (some { start := 0, length := 3, stopDistance := none }) }
    let s := sensing m .accel (rampAt 2 9 2 375) { MarkItems.empty with window := .opened }
    let sooner := s.modAx .A fun x => { x with sens := { x.sens with count := some 19 } }
    ((after (exec (.sensPinChange .A .low) s)).ax .A).mark.window = .found ∧
    ((after (exec (.sensPinChange .A .low) s)).ax .A).sens = { pin := .low, qualified := .high, count := some 0 } ∧
    ((after (exec (.sensPinChange .A .low) sooner)).ax .A).sens = { pin := .low, qualified := .low, count := none } := by
  decide

/-- R88, R108: with a filter time of 0 a soft reset finds an active pin qualified, and with one it begins a count. -/
theorem test_softreset_compares_SENS :
    let high : AxisConfig → AxisState → AxisState := fun c x =>
      { x with mode := .idle, config := c, sens := { pin := .high, qualified := .high, count := none } }
    let t (filter : Nat) := after (exec .softreset (idle.modAx .A (high { (idle.ax .A).config with filter := filter })))
    ((t 0).ax .A).sens = { pin := .high, qualified := .high, count := none } ∧
    ((t 20).ax .A).sens = { pin := .high, qualified := .low, count := some 0 } := by decide

/-- R136: the DRIVEFAULT reports of a soft reset stand in the order of the axes, from sequence 0. -/
theorem test_softreset_reports_in_order :
    let low : AxisState → AxisState := fun x =>
      { x with
        mode := .idle, config := { x.config with enable := true }
        drive := { x.drive with flt := { pin := .low, qualified := .low, count := none } } }
    let t := after (exec .softreset (((backed 16 idle).modAx .C low).modAx .B low))
    t.reports.reports.map (fun d => (d.seq, d.report.axis)) = [(0, .B), (1, .C)] ∧ t.iflag = 3 := by decide

/-! ## Witnesses: states that meet the hypotheses of the statements, clause by clause -/

theorem witness_EmptyQueueRunsDueEventsThenTime :
    (idle.pending = [] ∧ idle.dueEvents = []) ∧
    (let s := { idle with stop := { pin := .low, qualified := .high, count := some 10 } }
     s.pending = [] ∧ s.dueEvents = [.stopAssertion]) ∧
    (let s := { faulty id with stop := { pin := .low, qualified := .high, count := some 10 } }
     s.pending = [] ∧ 1 < s.dueEvents.length) ∧
    ((idle.ax .A).ramp.step = none ∧ (idle.gate 0).timer = none ∧ idle.NothingToGrant) := by decide

theorem witness_HeldResetIgnoresAllButPins :
    idle.hardReset.inReset = true ∧ Instr.post.wf = true ∧ Instr.post.busBytes.isSome = true := by decide

/-- A running axis meets every invariant, and its step answers a next state. -/
theorem witness_invariants :
    let s := after (exec .post (holding idle (record 2 0 5 0)))
    s.Shaped ∧ s.PoolLaw ∧ s.ConfigsLegal ∧ s.UseCounts ∧ s.ReportsOrdered ∧ s.InRange ∧ s.ProfilesLegal ∧ s.RampsPlanned ∧
      s.ArrivalsExact ∧ s.MembersListed ∧ s.TimersGuarded ∧ s.FiltersCounted := by decide

theorem witness_invariants_step :
    ∃ t, step { after (exec .post (holding idle (record 2 0 5 0))) with pending := [.stepPulse .A] } = .next t := ⟨_, rfl⟩

theorem witness_owner_statements :
    (∃ t, exec .haltall { idle with iflag := 7 } = .next t) ∧ idle.Shaped ∧ idle.ReportsOrdered ∧
    (after (exec .profquery (holding idle (record 8 0 0 0)))).cres ≠ .ok := ⟨⟨_, rfl⟩, by decide, by decide, by decide⟩

theorem witness_MalformedRecordsAreThoseOfR8 :
    idle.inReset = false ∧ (idle.ax idle.axsel).mode ≠ .disabled ∧
    moveOfBlock (record 5 0 5 0) = none ∧ moveOfBlock (record 2 0 5 7) ≠ none := by decide

theorem witness_PostRefusesInOrder :
    (State.reset.ax State.reset.axsel).mode = .disabled ∧ moveOfBlock idle.block = none ∧
    (∃ m, moveOfBlock (record 2 0 5 1) = some m ∧ m.gate = some 0) ∧ (idle.gate 0).members = 0 ∧
    inSet ((gated idle 2 0 0 none).gate 0).members .A = false ∧
    (let s := withA fun x => { x with mode := .halted, config := { x.config with quota := 1 }, queue := [plainMove 1] }
     (s.ax .A).config.quota ≤ (s.ax .A).queue.length) := by
  refine ⟨by decide, by decide, ⟨_, rfl, by decide⟩, by decide, by decide, by decide⟩

theorem witness_PostAppendsOrIsTaken :
    (holding idle (record 2 0 5 0)).Accepts (plainMove 5) ∧
    (holding (withA fun x => { x with mode := .halted }) (record 2 0 5 0)).Accepts (plainMove 5) := by decide

theorem witness_UngatedMoveWithDistanceStarts :
    let s := holding idle (record 1 0 5 0)
    s.Accepts { plainMove 5 with task := .absolute 5 2 none } ∧ s.NothingToGrant ∧ (s.ax .A).Free ∧
    (s.ax .A).limitMin ≤ 5 ∧ 5 ≤ (s.ax .A).limitMax ∧ (5 : Int) ≠ (s.ax .A).position := by decide

theorem witness_MoveOutsideLimitsEndsAtTake :
    (let s := holding (withA fun x => { x with limitMax := 4 }) (record 2 0 5 0)
     s.Accepts (plainMove 5) ∧ s.Clear ∧ s.Quiet ∧ (backed 16 s).Full ∧ (s.ax .A).Free ∧
      (plainMove 5).task.plannedEnd (s.ax .A).position = some 5 ∧ (s.ax .A).limitMax < 5) ∧
    (let s := withA fun x => { x with mode := .halted, cause := .limit, limitMax := 4, queue := [plainMove 5] }
     s.Quiet ∧ (backed 16 s).Quiet ∧ s.stop.qualified = .high ∧ (s.ax .A).held = none ∧ (s.ax .A).owed = none) ∧
    (withA fun x => { x with mode := .halted, cause := .gateTimeout, limitMax := 4, held := some (plainMove 5) }).Quiet := by
  decide

theorem witness_StartsFollowTheTable :
    let seek : Move := { plainMove 5 with task := .seek 5 2 true }
    ((withA fun x => { x with current := some { plainMove 5 with task := .dwell 1 } }).ax .A).current ≠ none ∧
    ((withA fun x => { x with current := some (plainMove 0), plannedEnd := some 0 }).ax .A).plannedEnd = some 0 ∧
    (let x := (withA fun x => { x with current := some seek }).ax .A
     x.sens.qualified ≠ x.config.activeLevel) ∧
    (let x := (withA fun x => { x with current := some seek, sens := { x.sens with qualified := .high } }).ax .A
     x.sens.qualified = x.config.activeLevel) := by decide

theorem witness_GatedMoveArrivesAtItsGate :
    (let s := holding (gated idle 3 0 50 none) (record 2 0 5 1)
     s.Accepts gatedMove ∧ s.NothingToGrant ∧ (s.ax .A).Free ∧
      ((s.allocate gatedMove).gate 0).arrivals ||| axisBit .A ≠ ((s.allocate gatedMove).gate 0).members) ∧
    (let s := holding (gated idle 1 0 50 none) (record 2 0 5 1)
     s.Accepts gatedMove ∧
      ((s.allocate gatedMove).gate 0).arrivals ||| axisBit .A = ((s.allocate gatedMove).gate 0).members) := by decide

theorem witness_AbortStopsARunningMove :
    (let s := running (plainMove 11) .accel (rampAt 2 9 2 375)
     s.NothingToGrant ∧ (s.ax .A).mode.running = true ∧
      (s.ax .A).ramp.elapsed < ((s.prof 2).decide 2 (min 9 2)).interval) ∧
    ((running (plainMove 11) .decel (rampAt 2 2 9 1625)).ax .A).ramp.overdue = true ∧
    (let s := running (plainMove 11) .accel (rampAt 0 11 0 0)
     s.Quiet ∧ (backed 16 s).Quiet ∧ (s.ax .A).owed = none ∧ min (s.ax .A).ramp.r (s.ax .A).ramp.k = 0) := by decide

theorem witness_AbortElsewhereFollowsItsTable :
    (waiting.Quiet ∧ (backed 16 waiting).Quiet ∧ (waiting.ax .A).owed = none ∧ (waiting.ax .A).mode = .gated ∧ gatedMove.gate = some 0) ∧
    (let s := withA fun x => { x with mode := .dwelling, current := some { plainMove 5 with task := .dwell 1 } }
     s.Quiet ∧ (backed 16 s).Quiet ∧ (s.ax .A).mode = .dwelling) := by decide

theorem witness_ResumeFollowsItsChecks :
    (let s := withA fun x => { x with mode := .halted, cause := .gateTimeout, held := some gatedMove }
     (s.ax .A).mode = .halted ∧ s.stop.qualified = .high ∧ (s.ax .A).held = some gatedMove) ∧
    (let s := withA fun x => { x with mode := .halted, cause := .limit, queue := [plainMove 5] }
     (s.ax .A).held = none ∧ (s.ax .A).queue = [plainMove 5]) ∧
    (let s := faulty fun x => { x with mode := .halted, cause := .drive, drive := { x.drive with flt := x.drive.flt.accept } }
     (s.ax .A).cause = .drive ∧ (s.ax .A).drive.flt.qualified = .low) ∧
    (let s := withA fun x => { x with mode := .halted, cause := .limit }
     s.NothingToGrant ∧ (s.ax .A).held = none ∧ (s.ax .A).queue = []) := by decide

theorem witness_SetposAndLimitsWriteTheirItems :
    (waiting.ax .A).mode.busy = true ∧ (idle.ax .A).mode.busy = false ∧
    (let b := record 0xFF 0xFF 0x7F 0
     signed24 b[0] b[1] b[2] = (idle.ax .A).limitMax) := by decide

theorem witness_AxconfigWritesTheConfiguration :
    let on : Vector Byte 16 := #v[1, 32, 3, 255, 0, 0, 0, 0, 0, 0, 0, 0, 0, 0, 0, 0]
    State.reset.Clear ∧ (State.reset.ax .A).mode = .disabled ∧ (State.reset.ax .A).owed = none ∧
    (configOfBlock on).enable = true ∧ (configOfBlock on).quota = 32 ∧
    (configOfBlock (on.set 1 33)).quota = 33 ∧ (configOfBlock (on.set 1 0)).quota = 0 ∧
    (let s := { State.reset with stop := { pin := .low, qualified := .low, count := none } }
     s.Clear ∧ s.stop.qualified = .low) ∧
    (let s := State.reset.modAx .A fun x => { x with drive := { x.drive with flt := { x.drive.flt with qualified := .low } } }
     s.Clear ∧ (backed 16 s).Full ∧ (s.ax .A).drive.flt.qualified = .low) := by decide

theorem witness_QueriesAnswerInTheSetPlaces :
    (idle.ax .A).inRange = true ∧ (idle.ax .A).configLegal = true ∧ idle.ProfilesLegal ∧
    (record 7 0 0 0)[0].toNat = (7 : ProfileNo).val ∧ (record 7 0 0 0)[0].toNat = (6 : GateTag).val + 1 ∧
    ((gated idle 3 1 65535 (some 65535000)).gate 0).timer.all (fun us => 1 ≤ us ∧ us ≤ 65535000) = true := by decide

theorem witness_ProfileLoadsAnUnusedRecord :
    let b : Vector Byte 16 := #v[7, 0xFF, 0xFF, 50, 0, 0xFF, 0x0F, 0, 0, 0, 0, 0, 0, 0, 0, 0]
    b[0].toNat = (7 : ProfileNo).val ∧ 50 ≤ unsigned16 b[3] b[4] ∧ unsigned16 b[3] b[4] ≤ unsigned16 b[1] b[2] ∧
    unsigned16 b[5] b[6] ≤ 4095 ∧ (idle.prof 7).useCount = 0 := by decide

theorem witness_GateSetupNeedsAnUnusedGate :
    let b : Vector Byte 16 := #v[7, 15, 0xFF, 0xFF, 0, 0, 0, 0, 0, 0, 0, 0, 0, 0, 0, 0]
    b[0].toNat = (6 : GateTag).val + 1 ∧ 1 ≤ b[1].toNat ∧ b[1].toNat ≤ 15 ∧ (idle.gate 6).useCount = 0 := by decide

theorem witness_PopRemovesTheHead : (backed 1 idle).NoOffers ∧ (backed 1 idle).reports.reports ≠ [] := by decide

theorem witness_FreedPlaceIsGrantedInTurn :
    let s := backed 16 (reporting .cont none)
    (arbiterOrder s.reports.last).find? (fun b => (s.ax b).offer.isSome) = some .A ∧
    (s.ax .A).owed = none ∧ s.reports.reports.tail.length = 15 ∧ s.reports.reports ≠ [] ∧
    ((reporting (.halted .limit) none).ax .A).owed = none ∧
    ((reporting .cont (some .readbackDir)).ax .A).owed = some .readbackDir ∧
    (backed 15 (reporting (.halted .limit) none)).reports.reports.length = 15 := by decide

theorem witness_StopsReachEveryAxis :
    (let s := gated waiting 3 1 50 (some 10)
     s.Shaped ∧ s.ArrivalsExact ∧ s.NothingToGrant) ∧
    (let s := { running (plainMove 11) .accel (rampAt 2 9 2 375) with
                stop := { pin := .low, qualified := .high, count := some 10 } }
     s.Shaped ∧ s.ArrivalsExact ∧ s.NothingToGrant ∧ s.stop.counting .low = true ∧ (s.ax .A).mode.running = true ∧
      0 < min (s.ax .A).ramp.r (s.ax .A).ramp.k ∧ (s.ax .A).ramp.elapsed < ((s.prof 2).decide 2 2).interval) ∧
    (let s := running (plainMove 11) .accel (rampAt 3 2 8 1700)
     s.Shaped ∧ s.ArrivalsExact ∧ ((s.prof 2).decide 3 2).interval ≤ (s.ax .A).ramp.elapsed) ∧
    (let s := running (plainMove 11) .accel (rampAt 0 11 0 0)
     s.Shaped ∧ s.ArrivalsExact ∧ s.NothingToGrant ∧ min (s.ax .A).ramp.r (s.ax .A).ramp.k = 0 ∧
      s.granted (fun a => (s.ax a).mode.running) = [.A] ∧ (backed 16 s).Shaped ∧ (backed 16 s).ArrivalsExact ∧
      (backed 16 s).NothingToGrant ∧ (backed 16 s).ungranted (fun a => (s.ax a).mode.running) = [.A]) ∧
    (let s := backed 16 (reporting .cont none)
     s.Shaped ∧ s.ArrivalsExact ∧ s.NothingToGrant) := by decide

theorem witness_SoftresetKeepsTheSetup :
    idle.inReset = false ∧
    (let s := faulty fun x => { x with drive := { x.drive with flt := x.drive.flt.accept } }
     s.inReset = false ∧ (s.ax .A).mode ≠ .disabled ∧ (s.ax .A).drive.flt.qualified = .low) := by decide

theorem witness_PulseCountsAndDecidesTheNextStep :
    let w : MarkPart := { start := 1, length := 3, stopDistance := none }
    let m : Move := { plainMove 11 with task := .relative 11 2 (some w) }
    (let s := (running m .accel (rampAt 1 10 1 1625)).modAx .A fun x => { x with mark := { x.mark with window := .opened } }
     s.NothingToGrant ∧ (s.ax .A).ramp.step ≠ none ∧ 2 ≤ (s.ax .A).ramp.r ∧ (s.ax .A).mode.running = true ∧
      ((s.ax .A).ramp.stepsRun + 1 == w.start + w.length) = false) ∧
    (let s := (running m .accel (rampAt 3 8 3 875)).modAx .A fun x => { x with mark := { x.mark with window := .opened } }
     ((s.ax .A).ramp.stepsRun + 1 == w.start + w.length) = true ∧ (s.ax .A).mark.window = .opened) ∧
    (let ρ : Ramp := { rampAt 0 8 3 500 with step := some { cls := .cruise, interval := 500 } }
     let s := (running m .accel ρ).modAx .A fun x => { x with mark := { x.mark with window := .opened } }
     s.Quiet ∧ (backed 16 s).Quiet ∧ (s.ax .A).owed = none ∧ 2 ≤ (s.ax .A).ramp.r ∧ (s.ax .A).ramp.k = 0) := by decide

theorem witness_LastPulseEndsTheMove :
    (let s := running (plainMove 5) .decel (rampAt 1 1 4 2000)
     s.Clear ∧ (backed 16 s).Full ∧ (s.ax .A).owed = none ∧ (s.ax .A).ramp.step ≠ none ∧ (s.ax .A).ramp.r = 1) ∧
    (let s := (running (plainMove 5) .stopping (rampAt 1 1 4 2000)).modAx .A fun x =>
       { x with intent := some (.aborted .running) }
     s.Clear ∧ (s.ax .A).intent = some (.aborted .running) ∧ (Finding.aborted .running).path = .halted .abort) ∧
    (let s := (running atOnce .decel (rampAt 1 1 4 2000)).modAx .A fun x => { x with mark := { x.mark with window := .found } }
     s.Clear ∧ (backed 16 s).Full ∧ (s.ax .A).mark.window = .found) ∧
    (let s := (running { plainMove 5 with task := .seek 5 2 true } .decel (rampAt 1 1 4 2000)).modAx .A fun x =>
       { x with mark := { x.mark with search := .armed } }
     s.Clear ∧ (backed 16 s).Full ∧ (s.ax .A).mark.search = .armed) := by decide

theorem witness_StepsFollowTheRamp :
    profileLegal 65535 50 4095 = true ∧ profileLegal 50 50 0 = true := by decide

theorem witness_HighTimeAndSampleFollowThePulse :
    (let s := sampled fun x => { x with mode := .accel, current := some (plainMove 5), ramp := rampAt 1 4 1 4 }
     s.Quiet ∧ (s.ax .A).owed = none ∧ (s.ax .A).mode.running = true ∧ (s.ax .A).drive.stepHigh ≠ none ∧
      (s.ax .A).drive.sample ≠ none) ∧
    (let s := sampled fun x => { x with mode := .dwelling, current := some { plainMove 5 with task := .dwell 1 } }
     s.Quiet ∧ (s.ax .A).owed = none) ∧
    (let s := sampled fun x => { x with mode := .gated, current := some gatedMove }
     s.Quiet ∧ (backed 16 s).Quiet ∧ (s.ax .A).owed = none) ∧
    ((sampled id).Quiet ∧ (backed 16 (sampled id)).Quiet ∧ ((sampled id).ax .A).mode = .idle) ∧
    (sampled fun x => { x with mode := .halted, cause := .limit, held := some gatedMove }).Quiet ∧
    (sampled fun x => { x with mode := .disabled }).NothingToGrant ∧
    (let s := backed 16 (sampled fun x => { x with mode := .reporting, offer := some { report := sample, path := .cont } })
     (s.ax .A).mode = .reporting ∧ s.reports.reports.length = 16) := by decide

theorem witness_DwellExpiryReportsDone :
    let s := withA fun x => { x with mode := .dwelling, current := some { plainMove 5 with task := .dwell 1 } }
    s.Clear ∧ (s.ax .A).owed = none ∧ (backed 16 s).Full := by decide

theorem witness_GateTimeoutHoldsEveryWaitingMove :
    let s := gated waiting 3 1 50 (some 0)
    let t := backed 16 s
    s.Shaped ∧ s.ArrivalsExact ∧ s.NothingToGrant ∧ (s.gate 0).timer ≠ none ∧ s.granted (inSet (s.gate 0).arrivals) = [.A] ∧
    t.Shaped ∧ t.ArrivalsExact ∧ t.NothingToGrant ∧ t.ungranted (inSet (t.gate 0).arrivals) = [.A] := by decide

theorem witness_GateFiringStartsEveryMember :
    (let s := gated waiting 1 1 50 (some 10)
     s.NothingToGrant ∧ s.Shaped ∧ s.ArrivalsExact ∧ (s.gate 0).members ≠ 0 ∧ (s.gate 0).arrivals = (s.gate 0).members ∧
      (s.ax .A).plannedEnd = some 5 ∧ (s.ax .A).position = 0) ∧
    (let s := gated (waitingFor (.seek 5 2 true)) 1 1 50 none
     s.Shaped ∧ s.ArrivalsExact ∧ (s.ax .A).sens.qualified ≠ (s.ax .A).config.activeLevel) ∧
    (let s := gated ((waitingFor (.seek 5 2 true)).modAx .A fun x => { x with sens := { x.sens with qualified := .high } }) 1 1 50 none
     s.Shaped ∧ s.ArrivalsExact ∧ (s.ax .A).sens.qualified = (s.ax .A).config.activeLevel) ∧
    (let s := gated (waitingFor (.absolute 0 2 none)) 1 1 50 none
     s.Shaped ∧ s.ArrivalsExact ∧ (s.ax .A).plannedEnd = some (s.ax .A).position) ∧
    (let s := gated (waitingFor (.dwell 1)) 1 1 50 none
     s.Shaped ∧ s.ArrivalsExact ∧ (s.ax .A).current ≠ none) := by decide

theorem witness_PinChangesStartAndDiscardCounts :
    (idle.ax .A).config.filter ≠ 0 ∧ (idle.ax .A).sens.leaves .high 20 = false ∧
    (let s := sensing (plainMove 11) .accel (rampAt 2 9 2 375) MarkItems.empty
     (s.ax .A).sens.leaves .low (s.ax .A).config.filter = true ∧ (s.ax .A).sens.pin = (s.ax .A).config.activeLevel) ∧
    ((faulty id).ax .A).drive.flt.leaves .high 10 = true ∧
    FilteredInput.leaves { pin := .low, qualified := .high, count := some 10 } .high 10 = true ∧
    (let s := withA fun x => { x with config := { x.config with filter := 0 } }
     s.NothingToGrant ∧ (s.ax .A).mode.running = false ∧ (s.ax .A).sens.count = none ∧ Level.high ≠ (s.ax .A).sens.pin ∧
      Level.high ≠ (s.ax .A).sens.qualified) ∧
    (let s := (running (plainMove 11) .accel (rampAt 2 9 2 375)).modAx .A fun x =>
       { x with config := { x.config with filter := 0 } }
     (s.ax .A).config.filter = 0 ∧ (s.ax .A).sens.count = none ∧ Level.high ≠ (s.ax .A).sens.pin ∧ Level.high ≠ (s.ax .A).sens.qualified) := by decide

theorem witness_LeadingEdgeInAnOpenWindowIsTheMark :
    let w : MarkPart := { start := 1, length := 3, stopDistance := some 2 }
    let m : Move := { plainMove 11 with task := .relative 11 2 (some w) }
    (let s := withA fun x => { x with sens := { pin := .high, qualified := .low, count := some 20 } }
     s.NothingToGrant ∧ (s.ax .A).sens.counting (s.ax .A).config.activeLevel = true ∧ (s.ax .A).mode.running = false) ∧
    (let s := sensing (plainMove 11) .accel (rampAt 2 9 2 375) MarkItems.empty
     s.NothingToGrant ∧ (s.ax .A).sens.counting (s.ax .A).config.activeLevel = true ∧ (s.ax .A).mode.running = true ∧
      (plainMove 11).task.mark? = none) ∧
    (let s := sensing m .accel (rampAt 0 11 0 0) { MarkItems.empty with window := .waiting }
     (s.ax .A).mark.window ≠ .opened ∧ s.NothingToGrant) ∧
    (let s := sensing m .accel (rampAt 2 9 2 375) { MarkItems.empty with window := .opened }
     s.NothingToGrant ∧ (s.ax .A).sens.counting (s.ax .A).config.activeLevel = true ∧ (s.ax .A).mode.running = true ∧
      (s.ax .A).limitMin ≤ (s.ax .A).limitMax ∧ (s.ax .A).ramp.elapsed < ((s.prof 2).decide 2 2).interval) ∧
    (let s := sensing m .decel (rampAt 2 1 10 1700) { MarkItems.empty with window := .opened }
     let t := s.modAx .A fun x => { x with config := { x.config with filter := 0 } }
     s.NothingToGrant ∧ t.NothingToGrant ∧ ((s.prof 2).decide 2 2).interval ≤ (s.ax .A).ramp.elapsed ∧
      (t.ax .A).ramp.elapsed = (s.ax .A).ramp.elapsed ∧ (s.ax .A).config.filter ≠ 0 ∧ (t.ax .A).config.filter = 0) ∧
    (let s := sensing atOnce .accel (rampAt 0 11 0 0) { MarkItems.empty with window := .opened }
     let t := s.modAx .A fun x => { x with config := { x.config with filter := 0 } }
     max (s.ax .A).limitMin (min (s.ax .A).limitMax (s.ax .A).position) = (s.ax .A).position ∧ s.Quiet ∧ t.Quiet ∧ (backed 16 t).Quiet ∧
      min (s.ax .A).ramp.r (s.ax .A).ramp.k = 0 ∧ (s.ax .A).config.filter ≠ 0 ∧ (t.ax .A).config.filter = 0 ∧
      (t.ax .A).sens.counting (t.ax .A).config.activeLevel = true) := by decide

theorem witness_LeadingEdgeOfASeekStopsIt :
    let m : Move := { plainMove 11 with task := .seek 11 2 true }
    (let s := sensing m .accel (rampAt 2 9 2 375) { MarkItems.empty with search := .armed }
     s.NothingToGrant ∧ (s.ax .A).sens.counting (s.ax .A).config.activeLevel = true ∧ (s.ax .A).mode.running = true ∧
      (s.ax .A).ramp.elapsed < ((s.prof 2).decide 2 2).interval) ∧
    (let s := sensing m .accel (rampAt 3 9 3 1300) { MarkItems.empty with search := .armed }
     (s.ax .A).mode.running = true ∧ ((s.prof 2).decide 3 3).interval ≤ (s.ax .A).ramp.elapsed) ∧
    (let s := sensing m .accel (rampAt 0 11 0 0) { MarkItems.empty with search := .armed }
     s.Quiet ∧ (backed 16 s).Quiet ∧ (s.ax .A).owed = none ∧ min (s.ax .A).ramp.r (s.ax .A).ramp.k = 0) ∧
    ((sensing m .decel (rampAt 2 2 5 0) { MarkItems.empty with search := .found }).ax .A).mark.search ≠ .armed := by decide

theorem witness_TrailingEdgesAndDeassertionsOnlyQualify :
    (let s := withA fun x => { x with sens := { pin := .low, qualified := .high, count := some 20 } }
     s.NothingToGrant ∧ (s.ax .A).sens.counting (otherLevel (s.ax .A).config.activeLevel) = true) ∧
    (let s := withA fun x => { x with drive := { x.drive with flt := { pin := .high, qualified := .low, count := some 10 } } }
     (s.ax .A).drive.flt.counting .high = true) ∧
    FilteredInput.counting { pin := .high, qualified := .low, count := some 10 } .high = true := by decide

theorem witness_FltAssertionIsADriveFault :
    (let s := faulty id
     s.Quiet ∧ (backed 16 s).Quiet ∧ s.Shaped ∧ (s.ax .A).drive.flt.counting .low = true ∧ (s.ax .A).mode = .idle) ∧
    (let s := faulty fun x => { x with mode := .accel, current := some (plainMove 11), ramp := rampAt 2 9 2 375 }
     s.Quiet ∧ (backed 16 s).Quiet ∧ s.Shaped ∧ (s.ax .A).mode.running = true) ∧
    (let s := faulty fun x => { x with mode := .gated, current := some gatedMove }
     s.Quiet ∧ (backed 16 s).Quiet ∧ s.Shaped) ∧
    (let s := faulty fun x => { x with mode := .halted, cause := .limit, held := some gatedMove }
     s.Quiet ∧ (backed 16 s).Quiet ∧ s.Shaped) ∧
    (let s := faulty fun x => { x with mode := .dwelling, current := some { plainMove 5 with task := .dwell 1 } }
     s.Quiet ∧ (backed 16 s).Quiet ∧ s.Shaped) := by decide

theorem witness_ReportingAxisKeepsItsReport :
    let s := backed 16 (faulty fun x => { x with mode := .reporting, offer := some { report := sample, path := .cont } })
    s.inReset = false ∧ s.reports.reports.length = 16 ∧ (s.ax .A).mode = .reporting ∧
    (s.ax .A).drive.flt.counting .low = true ∧
    FilteredInput.counting { pin := .low, qualified := .high, count := some 10 } .low = true := by decide

end Sys2Proof.Tests
end

section
/-! SUPPORT. Proofs about POST: the conditions of R8 under which a record does not decode, and the checks of Table 1-2 in
their order. -/

namespace Sys2Proof.Machine

/-! ## Numbers of profiles and gates, sets of axes -/

@[simp] theorem profileOfByte_eq_none (b : Byte) : profileOfByte b = none ↔ 7 < b.toNat := by
  simp [profileOfByte, Nat.succ_le_iff]

@[simp] theorem gateOfTag_eq_none (b : Byte) : gateOfTag b = none ↔ b.toNat = 0 ∨ 7 < b.toNat := by
  rw [gateOfTag, dite_eq_right_iff]
  simp only [reduceCtorEq, imp_false]
  omega

/-- An axis in a member set is in a gate that is set (R9, R68). -/
theorem ne_zero_of_inSet {set : AxisSet} {a : Axis} (h : inSet set a = true) : set ≠ 0 := by
  rintro rfl
  simp [inSet] at h

/-! ## The move record (R8, Table 9-4) -/

section Record
variable (b : Vector Byte 16)

/-- The gate tag is malformed above 7 only: 0 is a move without a gate. -/
@[simp] theorem moveGate_eq_none : moveGate b = none ↔ 7 < b[6].toNat := by
  unfold moveGate
  split
  · next h => simp [h]
  · next h =>
    have : b[6].toNat ≠ 0 := fun e => h (BitVec.eq_of_toNat_eq e)
    simp [this]

@[simp] theorem moveMark_eq_none :
    moveMark b = none ↔
      (expectsMark b = true ∧ unsigned16 b[10] b[11] = 0) ∨ (registers b = true ∧ expectsMark b = false) := by
  unfold moveMark
  cases expectsMark b <;> simp

/-- ABSOLUTE and RELATIVE take a profile and the mark parts, and refuse set-zero. -/
theorem moveTask_eq_none_of_positioning (h : b[0] = 1 ∨ b[0] = 2) :
    moveTask b = none ↔ 7 < b[5].toNat ∨ moveMark b = none ∨ setsZero b = true := by
  rw [moveTask, if_pos h, ← profileOfByte_eq_none]
  cases profileOfByte b[5] <;> cases moveMark b <;> cases setsZero b <;> simp

/-- SEEK takes a profile and a value other than 0, and refuses the mark parts. -/
theorem moveTask_eq_none_of_seek (h : b[0] = 3) :
    moveTask b = none ↔ 7 < b[5].toNat ∨ expectsMark b = true ∨ registers b = true ∨ moveValue b = 0 := by
  rw [moveTask, if_neg (by simp [h]), if_pos h, ← profileOfByte_eq_none]
  cases profileOfByte b[5] with
  | none => simp
  | some p => simp only [ite_eq_left_iff, reduceCtorEq, imp_false, not_not, false_or]

/-- DWELL takes a value from 1 to 65535, and refuses every part; its profile byte is not examined. -/
theorem moveTask_eq_none_of_dwell (h : b[0] = 4) :
    moveTask b = none ↔
      expectsMark b = true ∨ registers b = true ∨ setsZero b = true ∨ moveValue b < 1 ∨ 65535 < moveValue b := by
  rw [moveTask, if_neg (by simp [h]), if_neg (by simp [h]), if_pos h]
  simp only [ite_eq_left_iff, reduceCtorEq, imp_false, not_not]

theorem moveTask_of_unlisted_kind (h : ¬(b[0] = 1 ∨ b[0] = 2 ∨ b[0] = 3 ∨ b[0] = 4)) : moveTask b = none := by
  simp only [not_or] at h
  obtain ⟨h1, h2, h3, h4⟩ := h
  rw [moveTask, if_neg (not_or.2 ⟨h1, h2⟩), if_neg h3, if_neg h4]

theorem moveOfBlock_eq_none : moveOfBlock b = none ↔ moveTask b = none ∨ 7 < b[6].toNat := by
  rw [moveOfBlock, ← moveGate_eq_none]
  cases moveTask b <;> cases moveGate b <;> simp

/-- A record does not decode exactly under the nine conditions of R8. -/
theorem moveOfBlock_eq_none_iff_malformed :
    moveOfBlock b = none ↔
      ¬(b[0] = 1 ∨ b[0] = 2 ∨ b[0] = 3 ∨ b[0] = 4) ∨
      ((b[0] = 1 ∨ b[0] = 2 ∨ b[0] = 3) ∧ 7 < b[5].toNat) ∨
      7 < b[6].toNat ∨
      (b[0] = 3 ∧ moveValue b = 0) ∨
      (b[0] = 4 ∧ (moveValue b < 1 ∨ 65535 < moveValue b)) ∨
      (expectsMark b = true ∧ unsigned16 b[10] b[11] = 0) ∨
      (registers b = true ∧ expectsMark b = false) ∨
      ((expectsMark b = true ∨ registers b = true) ∧ (b[0] = 3 ∨ b[0] = 4)) ∨
      (setsZero b = true ∧ b[0] ≠ 3) := by
  rw [moveOfBlock_eq_none]
  by_cases kind : b[0] = 1 ∨ b[0] = 2 ∨ b[0] = 3 ∨ b[0] = 4
  · obtain h | h | h | h := kind
    · rw [moveTask_eq_none_of_positioning b (.inl h), moveMark_eq_none]
      grind
    · rw [moveTask_eq_none_of_positioning b (.inr h), moveMark_eq_none]
      grind
    · rw [moveTask_eq_none_of_seek b h]
      grind
    · rw [moveTask_eq_none_of_dwell b h]
      grind
  · exact iff_of_true (.inl (moveTask_of_unlisted_kind b kind)) (.inl kind)

end Record

/-! ## The checks of POST (R7, R9, Table 1-2) -/

section Checks
variable {s : State} {m : Move}

theorem exec_post (h : s.inReset = false) : exec .post s = .next s.applyPost :=
  congrArg _ (operating_of_not_inReset s State.applyPost h)

/-- Check 1. -/
theorem applyPost_of_disabled (h : (s.ax s.axsel).mode = .disabled) : s.applyPost = s.result .axisDisabled := if_pos h

/-- Check 2. -/
theorem applyPost_of_malformed (enabled : (s.ax s.axsel).mode ≠ .disabled) (h : moveOfBlock s.block = none) :
    s.applyPost = s.result .badParam := by
  rw [State.applyPost, if_neg enabled, h]

/-- Checks 3 to 6, on a well-formed record. -/
theorem applyPost_of_postRefusal {r : Result} (enabled : (s.ax s.axsel).mode ≠ .disabled)
    (hm : moveOfBlock s.block = some m) (h : s.postRefusal m = some r) : s.applyPost = s.result r := by
  rw [State.applyPost, if_neg enabled, hm]
  simp only [h]

/-- Check 3. -/
theorem postRefusal_of_gate_unset {g : GateTag} (hg : m.gate = some g) (h : (s.gate g).members = 0) :
    s.postRefusal m = some .gateUnset := by
  simp [State.postRefusal, hg, h]

/-- Check 4. -/
theorem postRefusal_of_not_member {g : GateTag} (hg : m.gate = some g) (nonempty : (s.gate g).members ≠ 0)
    (h : inSet (s.gate g).members s.axsel = false) : s.postRefusal m = some .gateMember := by
  simp only [State.postRefusal, hg, if_neg nonempty, h, Bool.false_eq_true, if_false]

/-- A move without a gate, or of a gate whose members include the axis, goes on to checks 5 and 6. -/
theorem postRefusal_of_gate_passes (h : ∀ g, m.gate = some g → inSet (s.gate g).members s.axsel = true) :
    s.postRefusal m =
      if (s.ax s.axsel).config.quota ≤ (s.ax s.axsel).queue.length then some .quotaFull
      else if s.poolFree = 0 then some .poolFull
      else none := by
  cases hg : m.gate with
  | none => simp [State.postRefusal, hg]
  | some g => simp only [State.postRefusal, hg, h g hg, if_neg (ne_zero_of_inSet (h g hg)), if_true]

end Checks

/-! ## The statements -/

/-- Settles O23: each kind's decoding fails under its own conditions of R8, and check 2 of Table 1-2 refuses the record. -/
theorem malformedRecordsAreThoseOfR8 : Obligations.MalformedRecordsAreThoseOfR8 := by
  intro s operating enabled
  have decodes := moveOfBlock_eq_none_iff_malformed s.block
  exact ⟨decodes, fun malformed => by
    rw [exec_post operating, applyPost_of_malformed enabled (decodes.2 malformed)]; rfl⟩

/-- Settles O24, check by check in the order of Table 1-2. -/
theorem postRefusesInOrder : Obligations.PostRefusesInOrder := by
  intro s operating
  rw [exec_post operating]
  refine ⟨fun disabled => congrArg _ (applyPost_of_disabled disabled), fun enabled =>
    ⟨fun malformed => congrArg _ (applyPost_of_malformed enabled malformed), fun m hm => ?_⟩⟩
  have refuses {r : Result} (h : s.postRefusal m = some r) :
      (.next s.applyPost : Host.Outcome State Fault Refusal) = .next { s with cres := r } :=
    congrArg _ (applyPost_of_postRefusal enabled hm h)
  refine ⟨fun g hg => ⟨fun unset => ?_, fun nonempty foreign => ?_⟩, fun gate => ⟨fun full => ?_, fun room empty => ?_⟩⟩
  · exact refuses (postRefusal_of_gate_unset hg unset)
  · exact refuses (postRefusal_of_not_member hg nonempty foreign)
  · exact refuses (by rw [postRefusal_of_gate_passes gate, if_pos full])
  · exact refuses (by rw [postRefusal_of_gate_passes gate, if_neg room.not_ge, if_pos empty])

end Sys2Proof.Machine
end

section
/-! SUPPORT. Proofs about PROFILE: the legality of the record in the parameter block, and the checks of R34 in their order. -/

namespace Sys2Proof.Machine

/-! ## The record in the parameter block (R20, R34) -/

@[simp] theorem profileOfByte_eq_some (b : Byte) (p : ProfileNo) : profileOfByte b = some p ↔ b.toNat = p.val := by
  simp only [profileOfByte, Option.dite_none_right_eq_some, Option.some.injEq, Fin.ext_iff]
  exact ⟨fun ⟨_, number⟩ => number, fun number => ⟨number ▸ p.isLt, number⟩⟩

/-- A two-byte field cannot exceed the longest start interval, so of R20's bounds this one never refuses a record. -/
theorem unsigned16_le_longestInterval (b0 b1 : Byte) : unsigned16 b0 b1 ≤ Config.longestInterval :=
  Nat.le_of_lt_succ (b1 ++ b0 : Word16).isLt

/-- Check 2 of R34: whether the S, C and L in the parameter block are inside the ranges of a profile record. -/
def State.blockProfileLegal (s : State) : Bool :=
  profileLegal (unsigned16 s.block[1] s.block[2]) (unsigned16 s.block[3] s.block[4]) (unsigned16 s.block[5] s.block[6])

/-- The record that PROFILE writes: S, C and L of the parameter block, and the use count the entry had. -/
def State.blockProfile (s : State) (q : Profile) : Profile :=
  { q with
    start := unsigned16 s.block[1] s.block[2], cruise := unsigned16 s.block[3] s.block[4]
    length := unsigned16 s.block[5] s.block[6] }

variable {s : State} {p : ProfileNo}

theorem blockProfileLegal_iff :
    s.blockProfileLegal = true ↔
      50 ≤ unsigned16 s.block[3] s.block[4] ∧ unsigned16 s.block[3] s.block[4] ≤ unsigned16 s.block[1] s.block[2] ∧
      unsigned16 s.block[5] s.block[6] ≤ 4095 := by
  simp only [State.blockProfileLegal, profileLegal, Bool.and_eq_true, decide_eq_true_eq, unsigned16_le_longestInterval,
    and_true, and_assoc]
  rfl

/-- Loading an entry that no move names leaves its use count at 0. -/
theorem blockProfile_of_unused (unused : (s.prof p).useCount = 0) :
    s.blockProfile (s.prof p) =
      { start := unsigned16 s.block[1] s.block[2], cruise := unsigned16 s.block[3] s.block[4]
        length := unsigned16 s.block[5] s.block[6], useCount := 0 } :=
  congrArg (Profile.mk _ _ _) unused

/-! ## The checks of PROFILE (R34) -/

theorem exec_profile (h : s.inReset = false) : exec .profile s = .next s.applyProfile :=
  congrArg _ (operating_of_not_inReset s State.applyProfile h)

/-- Check 1. -/
theorem applyProfile_of_no_entry (h : profileOfByte s.block[0] = none) : s.applyProfile = s.result .badParam := by
  rw [State.applyProfile, h]

/-- What PROFILE does once check 1 has passed. -/
theorem applyProfile_of_entry (hp : profileOfByte s.block[0] = some p) :
    s.applyProfile =
      if !s.blockProfileLegal then s.result .badParam
      else if (s.prof p).useCount ≠ 0 then s.result .profileInUse
      else (s.modProf p s.blockProfile).result .ok := by
  rw [State.applyProfile, hp]; rfl

/-- Check 2; check 1 gives the same result where it fails too. -/
theorem applyProfile_of_illegal (h : s.blockProfileLegal = false) : s.applyProfile = s.result .badParam := by
  cases hp : profileOfByte s.block[0] with
  | none => exact applyProfile_of_no_entry hp
  | some p => simp [applyProfile_of_entry hp, h]

/-- Check 3. -/
theorem applyProfile_of_in_use (hp : profileOfByte s.block[0] = some p) (legal : s.blockProfileLegal = true)
    (used : (s.prof p).useCount ≠ 0) : s.applyProfile = s.result .profileInUse := by
  simp [applyProfile_of_entry hp, legal, used]

theorem applyProfile_of_unused (hp : profileOfByte s.block[0] = some p) (legal : s.blockProfileLegal = true)
    (unused : (s.prof p).useCount = 0) : s.applyProfile = (s.modProf p s.blockProfile).result .ok := by
  simp [applyProfile_of_entry hp, legal, unused]

/-! ## The statement -/

/-- Settles O37, check by check in the order of R34. -/
theorem profileLoadsAnUnusedRecord : Obligations.ProfileLoadsAnUnusedRecord := by
  intro s operating start cruise length
  rw [exec_profile operating]
  refine ⟨fun beyond => ?_, fun outside => ?_, fun p number cruise_ge cruise_le length_le => ?_⟩
  · exact congrArg _ (applyProfile_of_no_entry ((profileOfByte_eq_none _).2 beyond))
  · have illegal : s.blockProfileLegal = false := by
      rw [← Bool.not_eq_true, blockProfileLegal_iff]
      omega
    exact congrArg _ (applyProfile_of_illegal illegal)
  · have hp := (profileOfByte_eq_some _ p).2 number
    have legal := blockProfileLegal_iff.2 ⟨cruise_ge, cruise_le, length_le⟩
    refine ⟨fun used => congrArg _ (applyProfile_of_in_use hp legal used), fun unused => ?_⟩
    rw [applyProfile_of_unused hp legal unused, State.modProf, blockProfile_of_unused unused]
    rfl

end Sys2Proof.Machine
end

section
/-! SUPPORT. Proofs about RESUME, SETPOS and LIMITS: their checks in order, and what an accepted one writes. -/

namespace Sys2Proof.Machine

/-! ## Nothing to grant, and the head of the queue -/

section Shared
variable {s : State} {a : Axis}

/-- A change of one axis that keeps its offer gives the arbiter nothing more to do (R125). -/
theorem nothingToGrant_setAx {x : AxisState} (h : s.NothingToGrant) (offer : x.offer = (s.ax a).offer) :
    (s.setAx a x).NothingToGrant := by
  refine h.imp_left fun none b hb => ?_
  rw [ax_setAx]
  split
  · exact offer.trans (none a (Axis.mem_all a))
  · exact none b hb

theorem settle_of_nothingToGrant (h : s.NothingToGrant) : s.settle = s :=
  h.elim (settle_of_noOffers s) fun full => settle_of_full s full.ge

theorem takeNext_of_nil (h : (s.ax a).queue = []) : s.takeNext a = s.modAx a fun x => { x with mode := .idle } := by
  rw [State.takeNext, h]

theorem takeNext_of_cons {m : Move} {rest : List Move} (h : (s.ax a).queue = m :: rest) :
    s.takeNext a = (s.modAx a fun x => { x with queue := rest }).take a m := by
  rw [State.takeNext, h]

end Shared

/-! ## RESUME (R57, R58) -/

/-- What an accepted RESUME leaves of its axis before it takes a move: no halt cause and no held move. -/
def AxisState.resumed (x : AxisState) : AxisState := { x with cause := .none, held := none }

/-- The part where RESUME has been accepted and has yet to take a move. -/
def State.resumed (s : State) : State := (s.modAx s.axsel AxisState.resumed).result .ok

section Resume
variable {s : State}

@[simp] theorem ax_resumed : s.resumed.ax s.axsel = (s.ax s.axsel).resumed := by
  rw [State.resumed, ax_result, ax_modAx_self]

/-- A later write of the axis covers what RESUME has written, all but the result. -/
theorem setAx_resumed (x : AxisState) : s.resumed.setAx s.axsel x = (s.setAx s.axsel x).result .ok :=
  congrArg (State.result · .ok) (setAx_setAx s s.axsel _ x)

theorem AxisState.resumed_of_no_held {x : AxisState} (h : x.held = none) : x.resumed = { x with cause := .none } :=
  congrArg (fun held => { x with cause := .none, held := held }) h.symm

theorem exec_resume (h : s.inReset = false) : exec .resume s = .next s.applyResume :=
  congrArg _ (operating_of_not_inReset s State.applyResume h)

/-- Check 1. -/
theorem applyResume_of_not_halted (h : (s.ax s.axsel).mode ≠ .halted) : s.applyResume = s.result .notHalted := if_pos h

/-- Check 2. -/
theorem applyResume_of_stop_low (halted : (s.ax s.axsel).mode = .halted) (h : s.stop.qualified = .low) :
    s.applyResume = s.result .stopActive := by
  rw [State.applyResume, if_neg (not_not.2 halted), if_pos h]

/-- Check 3. -/
theorem applyResume_of_drive_active (halted : (s.ax s.axsel).mode = .halted) (stop : s.stop.qualified = .high)
    (h : (s.ax s.axsel).cause = .drive ∧ (s.ax s.axsel).drive.flt.qualified = .low) :
    s.applyResume = s.result .driveActive := by
  rw [State.applyResume, if_neg (not_not.2 halted), if_neg (by simp [stop]), if_pos h]

section Accepted
variable (halted : (s.ax s.axsel).mode = .halted) (stop : s.stop.qualified = .high)
  (drive : ¬((s.ax s.axsel).cause = .drive ∧ (s.ax s.axsel).drive.flt.qualified = .low))
include halted stop drive

/-- Past its checks, RESUME re-takes the held move. -/
theorem applyResume_of_held {m : Move} (held : (s.ax s.axsel).held = some m) :
    s.applyResume = (s.resumed.take s.axsel m).settle := by
  rw [State.applyResume, if_neg (not_not.2 halted), if_neg (by simp [stop]), if_neg drive, held]
  rfl

/-- Past its checks and with no held move, RESUME goes on as at the end of a move. -/
theorem applyResume_of_no_held (no_held : (s.ax s.axsel).held = none) :
    s.applyResume = (s.resumed.takeNext s.axsel).settle := by
  rw [State.applyResume, if_neg (not_not.2 halted), if_neg (by simp [stop]), if_neg drive, no_held]
  rfl

end Accepted

/-- With no held move, the head of the queue is taken. -/
theorem resumed_takeNext_of_cons {m : Move} {rest : List Move} (no_held : (s.ax s.axsel).held = none)
    (queue : (s.ax s.axsel).queue = m :: rest) :
    s.resumed.takeNext s.axsel =
      ((s.setAx s.axsel { s.ax s.axsel with cause := .none, queue := rest }).result .ok).take s.axsel m := by
  rw [takeNext_of_cons (by rw [ax_resumed]; exact queue), State.modAx, ax_resumed,
    AxisState.resumed_of_no_held no_held, setAx_resumed]

/-- With no held move and an empty queue, the axis becomes IDLE. -/
theorem resumed_takeNext_of_nil (no_held : (s.ax s.axsel).held = none) (queue : (s.ax s.axsel).queue = []) :
    s.resumed.takeNext s.axsel =
      (s.setAx s.axsel { s.ax s.axsel with mode := .idle, cause := .none }).result .ok := by
  rw [takeNext_of_nil (by rw [ax_resumed]; exact queue), State.modAx, ax_resumed,
    AxisState.resumed_of_no_held no_held, setAx_resumed]

end Resume

/-! ## SETPOS (R60) -/

section Setpos
variable {s : State}

/-- The position that SETPOS finds in the parameter block. -/
def State.blockPosition (s : State) : Int := signed24 s.block[0] s.block[1] s.block[2]

theorem exec_setpos (h : s.inReset = false) : exec .setpos s = .next s.applySetpos :=
  congrArg _ (operating_of_not_inReset s State.applySetpos h)

/-- The two checks of SETPOS in order, and its write. -/
theorem applySetpos_eq :
    s.applySetpos =
      if (s.ax s.axsel).mode.busy then s.result .axisBusy
      else if s.blockPosition < (s.ax s.axsel).limitMin ∨ (s.ax s.axsel).limitMax < s.blockPosition then
        s.result .badParam
      else (s.setAx s.axsel { s.ax s.axsel with position := s.blockPosition }).result .ok := rfl

/-- Check 1. -/
theorem applySetpos_of_busy (h : (s.ax s.axsel).mode.busy = true) : s.applySetpos = s.result .axisBusy := if_pos h

/-- Check 2. -/
theorem applySetpos_of_outside (free : (s.ax s.axsel).mode.busy = false)
    (h : s.blockPosition < (s.ax s.axsel).limitMin ∨ (s.ax s.axsel).limitMax < s.blockPosition) :
    s.applySetpos = s.result .badParam := by
  rw [applySetpos_eq, if_neg (by simp [free]), if_pos h]

theorem applySetpos_of_inside (free : (s.ax s.axsel).mode.busy = false)
    (low : (s.ax s.axsel).limitMin ≤ s.blockPosition) (high : s.blockPosition ≤ (s.ax s.axsel).limitMax) :
    s.applySetpos = (s.setAx s.axsel { s.ax s.axsel with position := s.blockPosition }).result .ok := by
  rw [applySetpos_eq, if_neg (by simp [free]), if_neg (not_or.2 ⟨low.not_gt, high.not_gt⟩)]

end Setpos

/-! ## LIMITS (R61) -/

section Limits
variable {s : State}

/-- The lower limit that LIMITS finds in the parameter block. -/
def State.blockLimitMin (s : State) : Int := signed24 s.block[4] s.block[5] s.block[6]

/-- The upper limit that LIMITS finds in the parameter block. -/
def State.blockLimitMax (s : State) : Int := signed24 s.block[7] s.block[8] s.block[9]

theorem exec_limits (h : s.inReset = false) : exec .limits s = .next s.applyLimits :=
  congrArg _ (operating_of_not_inReset s State.applyLimits h)

/-- The two checks of LIMITS in order, and its write. -/
theorem applyLimits_eq :
    s.applyLimits =
      if (s.ax s.axsel).mode.busy then s.result .axisBusy
      else if s.blockLimitMax < s.blockLimitMin then s.result .badParam
      else
        (s.setAx s.axsel
          { s.ax s.axsel with limitMin := s.blockLimitMin, limitMax := s.blockLimitMax }).result .ok := rfl

/-- Check 1. -/
theorem applyLimits_of_busy (h : (s.ax s.axsel).mode.busy = true) : s.applyLimits = s.result .axisBusy := if_pos h

/-- Check 2. -/
theorem applyLimits_of_crossed (free : (s.ax s.axsel).mode.busy = false) (h : s.blockLimitMax < s.blockLimitMin) :
    s.applyLimits = s.result .badParam := by
  rw [applyLimits_eq, if_neg (by simp [free]), if_pos h]

theorem applyLimits_of_ordered (free : (s.ax s.axsel).mode.busy = false) (h : s.blockLimitMin ≤ s.blockLimitMax) :
    s.applyLimits =
      (s.setAx s.axsel
        { s.ax s.axsel with limitMin := s.blockLimitMin, limitMax := s.blockLimitMax }).result .ok := by
  rw [applyLimits_eq, if_neg (by simp [free]), if_neg h.not_gt]

end Limits

/-! ## The statements -/

/-- Settles O33: the three checks in order, then the three ways on, by the held move and the queue. -/
theorem resumeFollowsItsChecks : Obligations.ResumeFollowsItsChecks := by
  intro s operating x
  rw [exec_resume operating]
  refine ⟨fun moving => congrArg _ (applyResume_of_not_halted moving),
    fun halted low => congrArg _ (applyResume_of_stop_low halted low),
    fun halted stop active => congrArg _ (applyResume_of_drive_active halted stop active),
    fun halted stop drive => ?_⟩
  refine ⟨fun m held => ?_, fun m rest no_held queue => ?_, fun no_held queue nothing => ?_⟩
  · rw [applyResume_of_held halted stop drive held]
    rfl
  · rw [applyResume_of_no_held halted stop drive no_held, resumed_takeNext_of_cons no_held queue]
    rfl
  · rw [applyResume_of_no_held halted stop drive no_held, resumed_takeNext_of_nil no_held queue]
    refine congrArg _ (settle_of_nothingToGrant ?_)
    exact nothingToGrant_setAx (s := s) nothing rfl

/-- Settles O34, check by check for each of the two commands. -/
theorem setposAndLimitsWriteTheirItems : Obligations.SetposAndLimitsWriteTheirItems := by
  intro s operating x p lo hi
  rw [exec_setpos operating, exec_limits operating]
  exact ⟨fun busy => ⟨congrArg _ (applySetpos_of_busy busy), congrArg _ (applyLimits_of_busy busy)⟩, fun free =>
    ⟨fun outside => congrArg _ (applySetpos_of_outside free outside),
      fun low high => congrArg _ (applySetpos_of_inside free low high),
      fun crossed => congrArg _ (applyLimits_of_crossed free crossed),
      fun ordered => congrArg _ (applyLimits_of_ordered free ordered)⟩⟩

end Sys2Proof.Machine
end

section
/-! SUPPORT. Proofs about GATESET and GATECLEAR: the gate record in the parameter block, and the checks of R70 and R71 in their
order. -/

namespace Sys2Proof.Machine

/-! ## The gate record in the parameter block (R70, R158) -/

@[simp] theorem gateOfTag_eq_some (b : Byte) (g : GateTag) : gateOfTag b = some g ↔ b.toNat = g.val + 1 := by
  have in_range := g.isLt
  simp only [gateOfTag, Option.dite_none_right_eq_some, Option.some.injEq, Fin.ext_iff, exists_prop]
  omega

/-- The high byte of a two-byte field weighs 256. -/
theorem unsigned16_eq_add (b0 b1 : Byte) : unsigned16 b0 b1 = b0.toNat + 256 * b1.toNat := by
  rw [unsigned16, BitVec.toNat_append, ← Nat.shiftLeft_add_eq_or_of_lt b0.isLt, Nat.shiftLeft_eq]
  omega

/-- Check 2 of R70: the member set byte names no axis, or has one of bits 4 to 7 set. -/
def State.blockMembersBad (s : State) : Prop := s.block[1] = 0 ∨ 15 < s.block[1].toNat

/-- The record that GATESET writes: the member set and the timeout of the parameter block, all else as it was. -/
def State.blockGate (s : State) (q : Gate) : Gate :=
  { q with
    members := BitVec.ofNat 4 s.block[1].toNat
    timeout := s.block[2].toNat + 256 * s.block[3].toNat }

/-- The record that GATECLEAR leaves: no member and no timeout, all else as it was. -/
def Gate.cleared (q : Gate) : Gate := { q with members := 0, timeout := 0 }

section Checks
variable {s : State} {g : GateTag}

theorem not_blockMembersBad (named : 1 ≤ s.block[1].toNat) (high_clear : s.block[1].toNat ≤ 15) : ¬s.blockMembersBad := by
  rintro (zero | high)
  · simp [zero] at named
  · omega

/-! ## The checks of GATESET (R70) -/

theorem exec_gateset (h : s.inReset = false) : exec .gateset s = .next s.applyGateset :=
  congrArg _ (operating_of_not_inReset s State.applyGateset h)

/-- Check 1. -/
theorem applyGateset_of_no_gate (h : gateOfTag s.block[0] = none) : s.applyGateset = s.result .badParam := by
  rw [State.applyGateset, h]

/-- Check 2. -/
theorem applyGateset_of_bad_members (hg : gateOfTag s.block[0] = some g) (h : s.blockMembersBad) :
    s.applyGateset = s.result .badParam := by
  rw [State.applyGateset, hg]
  exact if_pos h

/-- What GATESET does once checks 1 and 2 have passed. -/
theorem applyGateset_of_members (hg : gateOfTag s.block[0] = some g) (members : ¬s.blockMembersBad) :
    s.applyGateset =
      if (s.gate g).useCount ≠ 0 then s.result .gateInUse else (s.modGate g s.blockGate).result .ok := by
  rw [State.applyGateset, hg]
  refine (if_neg members).trans ?_
  simp only [State.modGate, State.blockGate, unsigned16_eq_add, BitVec.ofNat_toNat]

/-! ## The checks of GATECLEAR (R71) -/

theorem exec_gateclear (h : s.inReset = false) : exec .gateclear s = .next s.applyGateclear :=
  congrArg _ (operating_of_not_inReset s State.applyGateclear h)

/-- Check 1. -/
theorem applyGateclear_of_no_gate (h : gateOfTag s.block[0] = none) : s.applyGateclear = s.result .badParam := by
  rw [State.applyGateclear, h]

/-- What GATECLEAR does once check 1 has passed. -/
theorem applyGateclear_of_gate (hg : gateOfTag s.block[0] = some g) :
    s.applyGateclear =
      if (s.gate g).useCount ≠ 0 then s.result .gateInUse else (s.modGate g Gate.cleared).result .ok := by
  rw [State.applyGateclear, hg]; rfl

end Checks

/-! ## The statement -/

/-- Settles O38, check by check in the order of R70 for GATESET and of R71 for GATECLEAR. -/
theorem gateSetupNeedsAnUnusedGate : Obligations.GateSetupNeedsAnUnusedGate := by
  intro s operating
  rw [exec_gateset operating, exec_gateclear operating]
  refine ⟨fun no_gate => ?_, fun g tag => ?_⟩
  · have hg : gateOfTag s.block[0] = none :=
      (gateOfTag_eq_none _).2 (no_gate.imp_left fun zero => by rw [zero]; rfl)
    exact ⟨congrArg _ (applyGateset_of_no_gate hg), congrArg _ (applyGateclear_of_no_gate hg)⟩
  · have hg := (gateOfTag_eq_some _ g).2 tag
    refine ⟨fun bad => congrArg _ (applyGateset_of_bad_members hg bad), fun named high_clear => ?_, fun used => ?_,
      fun unused => ?_⟩
    · have set_gate := applyGateset_of_members hg (not_blockMembersBad named high_clear)
      exact ⟨fun used => congrArg _ (set_gate.trans (if_pos used)),
        fun unused => congrArg _ (set_gate.trans (if_neg (not_not.2 unused)))⟩
    · exact congrArg _ ((applyGateclear_of_gate hg).trans (if_pos used))
    · exact congrArg _ ((applyGateclear_of_gate hg).trans (if_neg (not_not.2 unused)))

end Sys2Proof.Machine
end

section
/-! SUPPORT. Proofs about FLUSH: what the release of several moves leaves, and the two outcomes of R148. -/

namespace Sys2Proof.Machine

/-! ## The release of several moves (R13, R18) -/

section Releases
variable (s : State) (ms : List Move)

/-- Each move released gives one slot back, and beyond the pool only the two tables are touched. -/
theorem foldl_release_eq : ms.foldl State.release s =
    { s with
      poolFree := s.poolFree + ms.length
      profiles := (ms.foldl State.release s).profiles
      gates := (ms.foldl State.release s).gates } := by
  induction ms generalizing s with
  | nil => rfl
  | cons m ms ih =>
    have slots : s.poolFree + 1 + ms.length = s.poolFree + (ms.length + 1) := by omega
    rw [List.foldl_cons, ih (s.release m), release_poolFree, slots, release_eq s m]
    rfl

@[simp] theorem ax_foldl_release (a : Axis) : (ms.foldl State.release s).ax a = s.ax a := by
  rw [foldl_release_eq]; rfl

/-- A profile's use count falls by the number of the released moves that name it (R32). -/
theorem prof_foldl_release (p : ProfileNo) :
    (ms.foldl State.release s).prof p =
      { s.prof p with
        useCount := (s.prof p).useCount - ms.countP fun m => m.task.profile? == some p } := by
  induction ms generalizing s with
  | nil => rfl
  | cons m ms ih =>
    rw [List.foldl_cons, ih, prof_release, List.countP_cons]
    by_cases names : m.task.profile? = some p
    · simp [names, Nat.sub_sub, Nat.add_comm]
    · simp [names]

/-- A gate's use count falls by the number of the released moves that carry its tag (R69). -/
theorem gate_foldl_release (g : GateTag) :
    (ms.foldl State.release s).gate g =
      { s.gate g with useCount := (s.gate g).useCount - ms.countP fun m => m.gate == some g } := by
  induction ms generalizing s with
  | nil => rfl
  | cons m ms ih =>
    rw [List.foldl_cons, ih, gate_release, List.countP_cons]
    by_cases carries : m.gate = some g
    · simp [carries, Nat.sub_sub, Nat.add_comm]
    · simp [carries]

end Releases

/-! ## FLUSH (R18, R148) -/

/-- The low byte of a number. -/
@[simp] theorem natByte_zero (n : Nat) : natByte n 0 = BitVec.ofNat 8 n := by simp [natByte]

section Flush
variable {s : State}

/-- The part after an accepted FLUSH of the selected axis. -/
def State.flushed (s : State) : State :=
  let gone := (s.ax s.axsel).waitingMoves
  { s with
    cres := .ok
    block := s.block.set 0 (BitVec.ofNat 8 gone.length)
    poolFree := s.poolFree + gone.length
    axes := s.axes.set s.axsel.idx { s.ax s.axsel with queue := [], held := none }
    profiles := (gone.foldl State.release s).profiles
    gates := (gone.foldl State.release s).gates }

theorem exec_flush (h : s.inReset = false) : exec .flush s = .next s.applyFlush :=
  congrArg _ (operating_of_not_inReset s State.applyFlush h)

theorem applyFlush_of_disabled (h : (s.ax s.axsel).mode = .disabled) : s.applyFlush = s.result .axisDisabled := if_pos h

theorem applyFlush_of_enabled (h : (s.ax s.axsel).mode ≠ .disabled) : s.applyFlush = s.flushed := by
  simp only [State.applyFlush, if_neg h, State.modAx, ax_foldl_release, natByte_zero]
  rw [foldl_release_eq]
  rfl

end Flush

/-! ## The statement -/

/-- Settles O32: the refusal of a DISABLED axis, then what the release of every waiting move leaves of the pool and the two
tables. -/
theorem flushDiscardsQueueAndHeldMove : Obligations.FlushDiscardsQueueAndHeldMove := by
  intro s operating
  rw [exec_flush operating]
  refine ⟨fun disabled => congrArg _ (applyFlush_of_disabled disabled), fun enabled => ?_⟩
  rw [applyFlush_of_enabled enabled]
  exact ⟨s.flushed, rfl, rfl, prof_foldl_release s _, gate_foldl_release s _⟩

/-- Both clauses are met: a part just reset refuses FLUSH, and a HALTED axis with a queued DWELL and a held move of gate 1
loses both to it. -/
theorem witness_flush :
    let queued : Move := { task := .dwell 5, gate := none, tag := 1 }
    let held : Move := { task := .relative 5 2 none, gate := some 0, tag := 2 }
    let s := State.reset.modAx .A fun x => { x with mode := .halted, cause := .gateTimeout, queue := [queued], held := some held }
    (State.reset.inReset = false ∧ (State.reset.ax State.reset.axsel).mode = .disabled) ∧
    (s.inReset = false ∧ (s.ax s.axsel).mode ≠ .disabled ∧ (s.ax s.axsel).waitingMoves = [queued, held]) := by decide

end Sys2Proof.Machine
end

section
/-! SUPPORT. Proofs about the queue of commands: commands are taken in the order written (R154). -/

namespace Sys2Proof.Machine

/-- Whatever else the state holds, due events included, a waiting command goes first and leaves the queue before it acts. -/
theorem step_of_pending {s : State} {c : Instr} {rest : List Instr} (h : s.pending = c :: rest) :
    step s = exec c { s with pending := rest } := by
  rw [step, h]

/-! ## The statement -/

/-- Settles O1: the front of the queue is the command itself. -/
theorem stepRunsTheFrontCommand : Obligations.StepRunsTheFrontCommand :=
  fun _ _ _ => step_of_pending rfl

end Sys2Proof.Machine
end

section
/-! SUPPORT. The shape and the range of an axis as facts, and what one axis goes through inside a command: the three invariants
that speak of one axis alone, carried from its state before to its state after. -/

namespace Sys2Proof.Machine

/-! ## The shape of an axis as facts (Table 3-2) -/

/-- The items that Table 3-2 gives an axis in its state. -/
structure AxisState.Shape (x : AxisState) : Prop where
  step : x.ramp.step.isSome = (x.mode.running || x.mode == .stopping)
  intent : x.intent.isSome = (x.mode == .stopping)
  owed : x.mode ≠ .reporting → x.owed = none
  enable : x.config.enable = (x.mode != .disabled)
  cause : x.mode ≠ .reporting → x.mode ≠ .halted → x.cause = .none
  empty : x.mode = .disabled ∨ x.mode = .idle → x.queue = [] ∧ x.current = none ∧ x.held = none ∧ x.offer = none
  gated : x.mode = .gated → (∃ m g, x.current = some m ∧ m.gate = some g) ∧ x.held = none ∧ x.offer = none
  moving : x.mode.running = true ∨ x.mode = .stopping →
    (∃ m p, x.current = some m ∧ m.task.profile? = some p) ∧ x.held = none ∧ x.offer = none
  dwelling : x.mode = .dwelling → (∃ m ms, x.current = some m ∧ m.task = .dwell ms) ∧ x.held = none ∧ x.offer = none
  reporting : x.mode = .reporting → x.current = none ∧ ∃ o, x.offer = some o ∧
    (o.path = .cont → x.held = none ∧ (x.owed = none → x.cause = .none))
  halted : x.mode = .halted → x.current = none ∧ x.offer = none

theorem running_iff {m : Mode} : m.running = true ↔ m = .accel ∨ m = .cruise ∨ m = .decel := by
  cases m <;> simp [Mode.running]

theorem profile?_eq_none {t : Task} : t.profile? = none ↔ ∃ ms, t = .dwell ms := by
  cases t <;> simp [Task.profile?]

theorem AxisState.shape {x : AxisState} (h : x.shaped = true) : x.Shape := by
  unfold AxisState.shaped at h
  simp only [Bool.and_eq_true, Bool.or_eq_true, beq_iff_eq, Option.isNone_iff_eq_none] at h
  obtain ⟨⟨⟨⟨⟨items, step⟩, intent⟩, owed⟩, enable⟩, cause⟩ := h
  refine ⟨step, intent, fun n => owed.resolve_right n, enable, fun n k => cause.resolve_left (by tauto), ?_, ?_, ?_, ?_,
    ?_, ?_⟩
  · rintro (e | e) <;> rw [e] at items <;> simpa [and_assoc] using items
  · intro e
    rw [e] at items
    simpa [Option.any_eq_true, Option.isSome_iff_exists, and_assoc] using items
  · rw [running_iff]
    rintro ((e | e | e) | e) <;> rw [e] at items <;>
      simpa [Option.any_eq_true, Option.isSome_iff_exists, and_assoc] using items
  · intro e
    rw [e] at items
    simpa [Option.any_eq_true, profile?_eq_none, and_assoc] using items
  · intro e
    rw [e] at items
    obtain ⟨current, waits⟩ := Bool.and_eq_true_iff.1 items
    obtain ⟨o, offer, path⟩ := (Option.any_eq_true _ _).1 waits
    refine ⟨Option.isNone_iff_eq_none.1 current, o, offer, fun cont => ?_⟩
    simp only [cont, bne_self_eq_false, Bool.false_or, Bool.and_eq_true, Bool.or_eq_true, Option.isNone_iff_eq_none,
      beq_iff_eq] at path
    exact ⟨path.1, fun none => path.2.resolve_right (by simp [none])⟩
  · intro e
    rw [e] at items
    simpa using items

/-! ## The range of an axis as facts (R2, R40, R59) -/

/-- What keeps the position counter of an axis in range. -/
structure AxisState.Range (x : AxisState) : Prop where
  limits : Config.minPosition ≤ x.limitMin ∧ x.limitMin ≤ x.limitMax ∧ x.limitMax ≤ Config.maxPosition
  position : Config.minPosition ≤ x.position ∧ x.position ≤ Config.maxPosition
  legal : ∀ m ∈ x.moves, m.task.legal = true
  gated : x.mode = .gated → ∀ m, x.current = some m →
    x.plannedEnd = m.task.plannedEnd x.position ∧ x.limitCheck m.task = none
  rest : x.mode.running = true ∨ x.mode = .stopping →
    1 ≤ x.ramp.r ∧ ∀ m, x.current = some m → x.restInRange m.task = true

theorem AxisState.inRange_iff {x : AxisState} : x.inRange = true ↔ x.Range := by
  have split : x.inRange = true ↔ (((((x.limitMin ≥ Config.minPosition ∧ x.limitMin ≤ x.limitMax) ∧
      x.limitMax ≤ Config.maxPosition) ∧ Config.minPosition ≤ x.position) ∧ x.position ≤ Config.maxPosition) ∧
      (∀ m ∈ x.moves, m.task.legal = true)) ∧
      (x.mode = .gated → ∀ m, x.current = some m →
        x.plannedEnd = m.task.plannedEnd x.position ∧ x.limitCheck m.task = none) ∧
      (x.mode.running = true ∨ x.mode = .stopping →
        1 ≤ x.ramp.r ∧ ∀ m, x.current = some m → x.restInRange m.task = true) := by
    simp only [AxisState.inRange, Bool.and_eq_true, decide_eq_true_eq, List.all_eq_true, Bool.or_eq_true,
      Bool.not_eq_true', Bool.or_eq_false_iff, bne_iff_ne, Option.all_eq_true, beq_iff_eq, Option.isNone_iff_eq_none,
      beq_eq_false_iff_ne, ge_iff_le, and_assoc]
    grind
  rw [split]
  exact ⟨fun ⟨⟨⟨⟨⟨⟨a, b⟩, c⟩, d⟩, e⟩, f⟩, g, h⟩ => ⟨⟨a, b, c⟩, ⟨d, e⟩, f, g, h⟩,
    fun ⟨⟨a, b, c⟩, ⟨d, e⟩, f, g, h⟩ => ⟨⟨⟨⟨⟨⟨a, b⟩, c⟩, d⟩, e⟩, f⟩, g, h⟩⟩

/-! ## What one axis goes through -/

/-- The profile table without its use counts: what times a move. -/
def State.table (s : State) (p : ProfileNo) : Profile := { s.prof p with useCount := 0 }

/-- An axis is timed by a profile table as R23 gives. -/
def AxisState.planned (table : ProfileNo → Profile) (x : AxisState) : Bool :=
  !(x.mode.running || x.mode == .stopping)
  || (x.current.bind (·.task.profile?) == some x.ramp.profile
      && x.ramp.step == some ((table x.ramp.profile).decide x.ramp.k x.ramp.r)
      && x.ramp.k ≤ (table x.ramp.profile).length)

theorem rampPlanned_eq (s : State) (a : Axis) : s.rampPlanned a = (s.ax a).planned s.table := rfl

theorem AxisState.planned_iff {table : ProfileNo → Profile} {x : AxisState} : x.planned table = true ↔
    (x.mode.running = true ∨ x.mode = .stopping →
      x.current.bind (·.task.profile?) = some x.ramp.profile ∧
      x.ramp.step = some ((table x.ramp.profile).decide x.ramp.k x.ramp.r) ∧
      x.ramp.k ≤ (table x.ramp.profile).length) := by
  simp only [AxisState.planned, Bool.or_eq_true, Bool.not_eq_true', Bool.or_eq_false_iff, beq_eq_false_iff_ne,
    Bool.and_eq_true, beq_iff_eq, decide_eq_true_eq]
  grind

/-- What an axis keeps while it goes from one state to another. -/
structure AxisState.Goes (table : ProfileNo → Profile) (x y : AxisState) : Prop where
  legal : x.configLegal = true → y.configLegal = true
  range : x.Range → y.Range
  planned : x.planned table = true → y.planned table = true
  enabled : y.mode = .disabled ↔ x.mode = .disabled

/-- The items of an axis that the invariants speak of. -/
def AxisState.core (x : AxisState) : AxisState :=
  { x with
    dwell := 0, ramp := { x.ramp with stepsRun := 0, elapsed := 0 }
    sens := AxisState.reset.sens, mark := MarkItems.empty, drive := AxisState.reset.drive }

namespace AxisState.Goes

variable {table : ProfileNo → Profile} {x y z : AxisState}

theorem refl (x : AxisState) : x.Goes table x := ⟨id, id, id, Iff.rfl⟩

theorem trans (h : x.Goes table y) (k : y.Goes table z) : x.Goes table z :=
  ⟨k.legal ∘ h.legal, k.range ∘ h.range, k.planned ∘ h.planned, k.enabled.trans h.enabled⟩

/-- A fact that does not look at the rest of an axis carries over between axes of one core. -/
theorem eq_of_core {β : Type} (f : AxisState → β) (h : y.core = x.core) (core : ∀ x, f x.core = f x) : f y = f x := by
  rw [← core y, h, core x]

theorem shaped_of_core (h : y.core = x.core) : y.shaped = x.shaped := eq_of_core _ h fun _ => rfl

theorem moves_of_core (h : y.core = x.core) : y.moves = x.moves := eq_of_core _ h fun _ => rfl

/-- No invariant reads the timers, the sensor, the Mark Unit and the Drive Check. -/
theorem of_core (h : y.core = x.core) : x.Goes table y where
  legal k := (eq_of_core AxisState.configLegal h fun _ => rfl).trans k
  range k := inRange_iff.1 ((eq_of_core AxisState.inRange h fun _ => rfl).trans (inRange_iff.2 k))
  planned k := (eq_of_core (AxisState.planned table) h fun _ => rfl).trans k
  enabled := by rw [eq_of_core AxisState.mode h fun _ => rfl]

/-- The queue can only shrink below its quota. -/
theorem configLegal_of_queue (queue : y.queue.length ≤ x.queue.length) (config : y.config = x.config)
    (h : x.configLegal = true) : y.configLegal = true := by
  simp only [AxisState.configLegal, config, Bool.and_eq_true, decide_eq_true_eq] at h ⊢
  exact ⟨h.1, queue.trans h.2⟩

/-- An enabled axis comes to rest: it neither waits at a gate nor runs. -/
theorem of_rest (enabled : x.mode ≠ .disabled)
    (rest : y.mode = .idle ∨ y.mode = .halted ∨ y.mode = .reporting ∨ y.mode = .dwelling)
    (queue : y.queue.length ≤ x.queue.length) (config : y.config = x.config)
    (limits : y.limitMin = x.limitMin ∧ y.limitMax = x.limitMax) (moves : y.moves ⊆ x.moves)
    (position : x.Range → Config.minPosition ≤ y.position ∧ y.position ≤ Config.maxPosition) : x.Goes table y where
  legal := configLegal_of_queue queue config
  range h :=
    { limits := by rw [limits.1, limits.2]; exact h.limits
      position := position h
      legal := fun m hm => h.legal m (moves hm)
      gated := fun e => by rw [e] at rest; simp at rest
      rest := fun e => by rw [running_iff] at e; grind }
  planned _ := planned_iff.2 fun e => by rw [running_iff] at e; grind
  enabled := by grind

end AxisState.Goes
end Sys2Proof.Machine
end

section
/-! SUPPORT. One axis while a move starts and runs: the ramp, the re-plans and the pulses keep it in range and timed by R23. -/

namespace Sys2Proof.Machine

/-! ## The rest of a move (R2, R40, R59) -/

/-- An axis with another remaining count and another pending step. -/
def AxisState.withStep (x : AxisState) (r : Nat) (step : Option PendingStep) : AxisState :=
  { x with ramp := { x.ramp with r := r, step := step } }

section Rest
variable {x : AxisState} {t : Task}

/-- A shorter rest of the same move stays in range. -/
theorem restInRange_mono {r : Nat} (h : x.restInRange t = true) (le : r ≤ x.ramp.r) :
    (x.withStep r none).restInRange t = true := by
  cases t <;> cases dir : x.ramp.dir <;>
    simp only [AxisState.restInRange, AxisState.withStep, dir, Bool.and_eq_true, decide_eq_true_eq] at h ⊢ <;> omega

/-- One step further with one step less to go ends at the same place. -/
theorem restInRange_step {y : AxisState} (h : x.restInRange t = true) (pos : 1 ≤ x.ramp.r)
    (position : y.position = x.position + x.ramp.dir.sign) (dir : y.ramp.dir = x.ramp.dir) (r : y.ramp.r = x.ramp.r - 1)
    (limits : y.limitMin = x.limitMin ∧ y.limitMax = x.limitMax) : y.restInRange t = true := by
  cases t <;> cases d : x.ramp.dir <;>
    simp only [AxisState.restInRange, dir, position, r, limits, d, Dir.sign, Bool.and_eq_true, decide_eq_true_eq] at h ⊢ <;>
      omega

/-- A SEEK that sets its position to 0 stays in range. -/
theorem restInRange_zero {v : Int} {p : ProfileNo} {b : Bool} (h : x.restInRange (.seek v p b) = true) :
    ({ x with position := 0 } : AxisState).restInRange (.seek v p b) = true := by
  cases d : x.ramp.dir <;> simp only [AxisState.restInRange, d, Bool.and_eq_true, decide_eq_true_eq] at h ⊢ <;> omega

theorem zero_in_range : Config.minPosition ≤ (0 : Int) ∧ (0 : Int) ≤ Config.maxPosition := by decide

/-- The next step of a move in range keeps the position counter in range (R59). -/
theorem position_step {m : Move} (h : x.Range) (moving : x.mode.running = true ∨ x.mode = .stopping)
    (hm : x.current = some m) :
    Config.minPosition ≤ x.position + x.ramp.dir.sign ∧ x.position + x.ramp.dir.sign ≤ Config.maxPosition := by
  obtain ⟨pos, rest⟩ := h.rest moving
  have rest := rest m hm
  obtain ⟨low, order, high⟩ := h.limits
  obtain ⟨plow, phigh⟩ := h.position
  cases task : m.task <;> cases d : x.ramp.dir <;>
    simp only [AxisState.restInRange, task, d, Dir.sign, Bool.and_eq_true, decide_eq_true_eq] at rest ⊢ <;> omega

/-- The end that a mark's re-plan aims at: the stop distance beyond the mark, clamped to the soft limits (R99). -/
def AxisState.goal (x : AxisState) (d : Nat) : Int :=
  let target := x.position + x.ramp.dir.sign * d
  if x.limitMax < target then x.limitMax else if target < x.limitMin then x.limitMin else target

theorem registration_eq (x : AxisState) (d : Nat) :
    x.registration d =
      if x.ramp.stoppingDistance ≤ (x.goal d - x.position).natAbs then
        (if x.goal d = x.position + x.ramp.dir.sign * d then .exact else .clamped, (x.goal d - x.position).natAbs)
      else (.short (x.ramp.stoppingDistance - (x.goal d - x.position).natAbs), x.ramp.stoppingDistance) := rfl

/-- The re-planned end is a soft limit before the target, or the target inside the limits (R99). -/
theorem goal_cases (d : Nat) :
    (x.goal d = x.limitMax ∧ x.goal d < x.position + x.ramp.dir.sign * d) ∨
    (x.goal d = x.limitMin ∧ x.position + x.ramp.dir.sign * d < x.goal d) ∨
    (x.goal d = x.position + x.ramp.dir.sign * d ∧ x.limitMin ≤ x.goal d ∧ x.goal d ≤ x.limitMax) := by
  simp only [AxisState.goal]
  split
  · exact .inl ⟨rfl, by assumption⟩
  · split
    · exact .inr (.inl ⟨rfl, by assumption⟩)
    · exact .inr (.inr ⟨rfl, by omega, by omega⟩)

/-- A re-plan at a mark leaves a rest that stays inside the soft limits (R99, R100). -/
theorem restInRange_registration (h : x.restInRange t = true) (order : x.limitMin ≤ x.limitMax)
    (seek : ∀ v p b, t ≠ .seek v p b) (d : Nat) :
    (x.withStep (x.registration d).2 none).restInRange t = true := by
  rw [registration_eq]
  split
  · have goal := goal_cases (x := x) d
    cases t with
    | seek v p b => exact absurd rfl (seek v p b)
    | _ =>
      cases dir : x.ramp.dir <;>
        simp only [AxisState.restInRange, AxisState.withStep, dir, decide_eq_true_eq, Dir.sign] at h goal ⊢ <;> omega
  · exact restInRange_mono h (Nat.min_le_left _ _)

end Rest

/-! ## Pulses (R23, R24, R26) -/

/-- The axis after a pulse that is not its move's last, with its next step decided (R23, R24). -/
def AxisState.advanced (x : AxisState) (table : ProfileNo → Profile) (st : PendingStep) : AxisState :=
  let y := x.emit st
  { y with ramp := { y.ramp with r := y.ramp.r, step := some ((table y.ramp.profile).decide y.ramp.k y.ramp.r) } }

theorem StepClass.mode_running (c : StepClass) : c.mode.running = true := by cases c <;> rfl

/-- A pulse shows its class in the state, but in STOPPING (R26). -/
theorem AxisState.emit_running {x : AxisState} (h : x.mode ≠ .stopping) (st : PendingStep) :
    (x.emit st).mode.running = true := by
  rw [show (x.emit st).mode = st.cls.mode from if_neg h]
  exact st.cls.mode_running

/-- A pulse leaves its axis in a running state or in STOPPING (R26). -/
theorem AxisState.emit_mode (x : AxisState) (st : PendingStep) :
    (x.emit st).mode.running = true ∨ (x.emit st).mode = .stopping := by
  by_cases h : x.mode = .stopping
  · exact .inr (if_pos h)
  · exact .inl (emit_running h st)

namespace AxisState.Goes

variable {table : ProfileNo → Profile} {x y z : AxisState}

/-! ## A moving axis (R23, R24, R28, R29) -/

/-- An axis that runs or stops, with its setup and its moves as they were. -/
theorem of_moving (moving : y.mode.running = true ∨ y.mode = .stopping) (enabled : x.mode ≠ .disabled)
    (queue : y.queue.length ≤ x.queue.length) (config : y.config = x.config)
    (limits : y.limitMin = x.limitMin ∧ y.limitMax = x.limitMax) (moves : y.moves ⊆ x.moves)
    (position : x.Range → Config.minPosition ≤ y.position ∧ y.position ≤ Config.maxPosition)
    (rest : x.Range → 1 ≤ y.ramp.r ∧ ∀ m, y.current = some m → y.restInRange m.task = true)
    (planned : x.planned table = true → y.current.bind (·.task.profile?) = some y.ramp.profile ∧
      y.ramp.step = some ((table y.ramp.profile).decide y.ramp.k y.ramp.r) ∧ y.ramp.k ≤ (table y.ramp.profile).length) :
    x.Goes table y where
  legal := configLegal_of_queue queue config
  range h :=
    { limits := by rw [limits.1, limits.2]; exact h.limits
      position := position h
      legal := fun m hm => h.legal m (moves hm)
      gated := fun e => by rw [running_iff] at moving; grind
      rest := fun _ => rest h }
  planned h := planned_iff.2 fun _ => planned h
  enabled := by rw [running_iff] at moving; grind

theorem enabled_of_moving (moving : x.mode.running = true ∨ x.mode = .stopping) : x.mode ≠ .disabled := by
  rw [running_iff] at moving; grind

/-- A re-plan to a count that stays in range decides the pending step again (R28). -/
theorem plan {r : Nat} (moving : x.mode.running = true ∨ x.mode = .stopping) (pos : 0 < r)
    (rest : x.Range → ∀ m, x.current = some m →
      (x.withStep r none).restInRange m.task = true) :
    x.Goes table (x.withStep r (some ((table x.ramp.profile).decide x.ramp.k r))) :=
  of_moving moving (enabled_of_moving moving) le_rfl rfl ⟨rfl, rfl⟩ (List.Subset.refl _) (fun h => h.position)
    (fun h => ⟨pos, rest h⟩) fun h => by
      obtain ⟨profile, -, length⟩ := planned_iff.1 h moving
      exact ⟨profile, rfl, length⟩

/-- The request of a controlled stop leaves the ramp as it is (R45). -/
theorem stop (running : x.mode.running = true) (intent : Option Finding) :
    x.Goes table { x with mode := .stopping, intent := intent } :=
  of_moving (.inr rfl) (enabled_of_moving (.inl running)) le_rfl rfl ⟨rfl, rfl⟩ (List.Subset.refl _)
    (fun h => h.position) (fun h => h.rest (.inl running)) fun h => (planned_iff (x := x)).1 h (.inl running)

/-- The edge of a SEEK with set-zero (R103). -/
theorem zero {m : Move} {v : Int} {p : ProfileNo} {b : Bool} (running : x.mode.running = true) (hm : x.current = some m)
    (seek : m.task = .seek v p b) : x.Goes table { x with position := 0 } :=
  of_moving (.inl running) (enabled_of_moving (.inl running)) le_rfl rfl ⟨rfl, rfl⟩ (List.Subset.refl _)
    (fun _ => zero_in_range)
    (fun h => ⟨(h.rest (.inl running)).1, fun n hn => by
      obtain rfl : m = n := Option.some.inj (hm.symm.trans hn)
      have rest := (h.rest (.inl running)).2 m hm
      rw [seek] at rest ⊢
      exact restInRange_zero rest⟩)
    fun h => planned_iff.1 h (.inl running)

/-- The ramp index after a pulse does not exceed the ramp length (R23). -/
theorem nextK_le {p : Profile} {k r : Nat} (h : k ≤ p.length) : (p.decide k r).cls.nextK k r ≤ p.length := by
  unfold Profile.decide
  split
  · simp only [StepClass.nextK]; omega
  · split <;> simp only [StepClass.nextK] <;> omega

/-- A pulse that is not the move's last (R23, R24). -/
theorem advance {st : PendingStep} (moving : x.mode.running = true ∨ x.mode = .stopping) (hs : x.ramp.step = some st)
    {m : Move} (hm : x.current = some m) (more : x.ramp.r - 1 ≠ 0) : x.Goes table (x.advanced table st) :=
  of_moving (x.emit_mode st) (enabled_of_moving moving) le_rfl rfl ⟨rfl, rfl⟩ (List.Subset.refl _)
    (fun h => position_step h moving hm)
    (fun h => by
      obtain ⟨pos, rest⟩ := h.rest moving
      exact ⟨Nat.one_le_iff_ne_zero.2 more, fun n hn => restInRange_step (rest n hn) pos rfl rfl rfl ⟨rfl, rfl⟩⟩)
    fun h => by
      obtain ⟨profile, step, length⟩ := planned_iff.1 h moving
      refine ⟨profile, rfl, ?_⟩
      rw [step] at hs
      cases hs
      exact nextK_le length

end AxisState.Goes

namespace AxisState

/-! ## A move that starts (R22, R42) -/

/-- An enabled axis has taken a move out of its queue or off its hold, and has yet to start it. `x` is the axis before, `z` the
axis with the move as its current one. A GATED axis whose gate fires is its own such axis. -/
structure Readies (x z : AxisState) (m : Move) : Prop where
  enabled : x.mode ≠ .disabled
  current : z.current = some m
  held : z.held = none
  offer : z.offer = none
  owed : z.owed = none
  cause : z.cause = .none
  intent : z.intent = none
  step : z.ramp.step = none
  enable : z.config.enable = true
  moves : z.moves.Perm x.moves
  queue : z.queue.length ≤ x.queue.length
  config : z.config = x.config
  limits : z.limitMin = x.limitMin ∧ z.limitMax = x.limitMax
  position : z.position = x.position

/-- The distance of a move that starts to run (R22). -/
def distance (x : AxisState) : Task → Int
  | .seek v _ _ => v
  | .absolute _ _ _ | .relative _ _ _ => x.plannedEnd.getD x.position - x.position
  | .dwell _ => 0

/-- The check of R40 passes exactly where the planned end, if the move has one, is inside the soft limits. -/
theorem limitCheck_eq_none {x : AxisState} {t : Task} :
    x.limitCheck t = none ↔ ∀ e, t.plannedEnd x.position = some e → x.limitMin ≤ e ∧ e ≤ x.limitMax := by
  unfold AxisState.limitCheck
  cases t.plannedEnd x.position with
  | none => simp
  | some e =>
    simp only [Option.some.injEq, forall_eq']
    split
    · simp; omega
    · split
      · simp; omega
      · simp; omega

/-- A move other than a SEEK that is to end inside the soft limits has its whole rest in range. -/
theorem restInRange_toward {x : AxisState} {t : Task} {e : Int} (seek : ∀ v p b, t ≠ .seek v p b)
    (r : x.ramp.r = (e - x.position).natAbs) (dir : x.ramp.dir = dirOf (e - x.position))
    (inside : x.limitMin ≤ e ∧ e ≤ x.limitMax) : x.restInRange t = true := by
  cases t with
  | seek v p b => exact absurd rfl (seek v p b)
  | _ =>
    by_cases forward : 0 < e - x.position <;>
      simp only [AxisState.restInRange, dir, dirOf, forward, if_true, if_false, r, decide_eq_true_eq] <;> omega

/-- A move whose end passes the limit check has its whole rest in range at its start (R2, R40). -/
theorem restInRange_startRun {x : AxisState} {m : Move} {p : ProfileNo} (legal : m.task.legal = true)
    (limits : Config.minPosition ≤ x.limitMin ∧ x.limitMin ≤ x.limitMax ∧ x.limitMax ≤ Config.maxPosition)
    (profile : m.task.profile? = some p) (planned : x.plannedEnd = m.task.plannedEnd x.position)
    (passes : x.limitCheck m.task = none) (entry : Profile) (q : ProfileNo) :
    (x.startRun entry q m.task (x.distance m.task)).restInRange m.task = true := by
  have inside := limitCheck_eq_none.1 passes
  obtain ⟨low, order, high⟩ := limits
  cases task : m.task with
  | dwell ms => simp [task, Task.profile?] at profile
  | seek v _ _ =>
    rw [task] at legal inside
    simp only [Task.legal, Bool.and_eq_true, decide_eq_true_eq] at legal
    have inside := inside _ rfl
    by_cases v_pos : 0 < v <;>
      simp only [AxisState.restInRange, AxisState.startRun, distance, dirOf, v_pos, if_true, if_false, Bool.and_eq_true,
        decide_eq_true_eq] <;> omega
  | _ =>
    rw [task] at planned inside
    have inside := inside _ rfl
    simp only [distance, planned, Task.plannedEnd, Option.getD_some] at inside ⊢
    refine restInRange_toward (by simp) rfl rfl inside

/-- An axis whose current move passes the limit check with the end it was taken with (R40). -/
def Passes (x : AxisState) (m : Move) : Prop := x.plannedEnd = m.task.plannedEnd x.position ∧ x.limitCheck m.task = none

/-- The axis at the gate of its current move (R41). -/
def arrived (x : AxisState) : AxisState := { x with mode := .gated, ramp := { x.ramp with stepsRun := 0 } }

namespace Readies

variable {table : ProfileNo → Profile} {x z : AxisState} {m : Move}

theorem legal (h : x.Readies z m) (range : x.Range) : m.task.legal = true :=
  range.legal m (h.moves.subset (by simp [AxisState.moves, h.current]))

theorem bounds (h : x.Readies z m) (range : x.Range) :
    Config.minPosition ≤ z.limitMin ∧ z.limitMin ≤ z.limitMax ∧ z.limitMax ≤ Config.maxPosition := by
  rw [h.limits.1, h.limits.2]; exact range.limits

theorem place (h : x.Readies z m) (range : x.Range) :
    Config.minPosition ≤ z.position ∧ z.position ≤ Config.maxPosition := by
  rw [h.position]; exact range.position

/-- A DWELL starts (R31, R42). -/
theorem goes_startDwell (h : x.Readies z m) (ms : Nat) : x.Goes table (z.startDwell ms) :=
  .of_rest h.enabled (.inr (.inr (.inr rfl))) h.queue h.config h.limits h.moves.subset h.place

theorem shaped_startDwell (h : x.Readies z m) {ms : Nat} (task : m.task = .dwell ms) : (z.startDwell ms).shaped = true := by
  obtain ⟨-, current, held, offer, owed, cause, intent, step, enable, -⟩ := h
  simp [AxisState.shaped, AxisState.startDwell, current, held, offer, owed, cause, intent, enable, task, Task.profile?,
    Mode.running]

/-- A move with distance starts to run (R22, R42). -/
theorem goes_startRun (h : x.Readies z m) (entry : Profile) {p : ProfileNo} (profile : m.task.profile? = some p)
    (passes : x.Range → z.Passes m) (far : x.Range → z.distance m.task ≠ 0) (entry_eq : entry.decide = (table p).decide) :
    x.Goes table (z.startRun entry p m.task (z.distance m.task)) :=
  .of_moving (.inl rfl) h.enabled h.queue h.config h.limits h.moves.subset h.place
    (fun r => ⟨Int.natAbs_pos.2 (far r), fun n hn => by
      obtain rfl : m = n := Option.some.inj (h.current.symm.trans hn)
      exact restInRange_startRun (h.legal r) (h.bounds r) profile (passes r).1
        (passes r).2 _ _⟩)
    fun _ => ⟨by simpa [AxisState.startRun, h.current] using profile, by simp [AxisState.startRun, entry_eq], Nat.zero_le _⟩

theorem shaped_startRun (h : x.Readies z m) (entry : Profile) {p : ProfileNo} (profile : m.task.profile? = some p)
    (q : ProfileNo) (t : Task) (d : Int) : (z.startRun entry q t d).shaped = true := by
  obtain ⟨-, current, held, offer, owed, cause, intent, step, enable, -⟩ := h
  simp [AxisState.shaped, AxisState.startRun, current, held, offer, owed, cause, intent, enable, profile, Mode.running]

/-- A gated move waits at its gate (R41). -/
theorem goes_gated (h : x.Readies z m) (passes : x.Range → z.Passes m) :
    x.Goes table z.arrived where
  legal := AxisState.Goes.configLegal_of_queue h.queue h.config
  range r :=
    { limits := h.bounds r
      position := h.place r
      legal := fun n hn => r.legal n (h.moves.subset hn)
      gated := fun _ n hn => by
        obtain rfl : m = n := Option.some.inj (h.current.symm.trans hn)
        exact passes r
      rest := fun e => by simp [arrived, Mode.running] at e }
  planned _ := rfl
  enabled := by simp [arrived, h.enabled]

theorem shaped_gated (h : x.Readies z m) {g : GateTag} (gate : m.gate = some g) :
    z.arrived.shaped = true := by
  obtain ⟨-, current, held, offer, owed, cause, intent, step, enable, -⟩ := h
  simp [AxisState.shaped, arrived, current, held, offer, owed, cause, intent, step, enable, gate, Mode.running]

end Readies

/-! ## A move that ends (R47) -/

/-- The current move of an enabled axis is about to end. `x` is the axis before, `z` the axis at the end itself. -/
structure Ends (x z : AxisState) (m : Move) : Prop where
  enabled : x.mode ≠ .disabled
  current : z.current = some m
  held : z.held = none
  owed : z.owed = none
  enable : z.config.enable = true
  moves : z.moves.Perm x.moves
  queue : z.queue.length ≤ x.queue.length
  config : z.config = x.config
  limits : z.limitMin = x.limitMin ∧ z.limitMax = x.limitMax
  position : x.Range → Config.minPosition ≤ z.position ∧ z.position ≤ Config.maxPosition

/-- The axis after the ends procedure (R47). -/
def ended (z : AxisState) (o : Offer) : AxisState := { z.clearMove with mode := .reporting, offer := some o }

theorem Readies.ends {x z : AxisState} {m : Move} (h : x.Readies z m) : x.Ends z m :=
  ⟨h.enabled, h.current, h.held, h.owed, h.enable, h.moves, h.queue, h.config, h.limits, h.place⟩

namespace Ends

variable {table : ProfileNo → Profile} {x z : AxisState} {m : Move}

/-- The end gives up the move and keeps the others. -/
theorem moves_ended (h : x.Ends z m) (o : Offer) : ((z.ended o).moves ++ [m]).Perm x.moves := by
  refine List.Perm.trans ?_ h.moves
  simp [AxisState.moves, ended, clearMove, h.current, h.held]

theorem goes (h : x.Ends z m) (o : Offer) : x.Goes table (z.ended o) :=
  .of_rest h.enabled (.inr (.inr (.inl rfl))) h.queue h.config h.limits
    (fun _ hn => (h.moves_ended o).subset (List.mem_append_left _ hn)) h.position

theorem shaped (h : x.Ends z m) {o : Offer} (path : z.cause = .none ∨ o.path ≠ .cont) : (z.ended o).shaped = true := by
  obtain ⟨-, -, held, owed, enable, -⟩ := h
  rcases path with cause | path
  · simp [AxisState.shaped, ended, clearMove, held, owed, enable, cause, Mode.running]
  · simp [AxisState.shaped, ended, clearMove, held, owed, enable, path, Mode.running]

end Ends

end AxisState
end Sys2Proof.Machine
end

section
/-! SUPPORT. What the part goes through inside a command: the moves it gives up, the gates, and the axes one by one; with the
rules that carry every invariant from the state before to the state after. -/

namespace Sys2Proof.Machine

/-! ## An operation on one axis -/

/-- From `s` to `t` only one axis changes, and the moves `gone` are released: nothing is deposited, no gate is reached but in its
use count. -/
structure State.Local (a : Axis) (gone : List Move) (s t : State) : Prop where
  others : ∀ b, b ≠ a → t.ax b = s.ax b
  reports : t.reports = s.reports
  pool : t.poolFree = s.poolFree + gone.length
  prof : ∀ p, t.prof p =
    { s.prof p with useCount := (s.prof p).useCount - gone.countP fun m => m.task.profile? == some p }
  gate : ∀ g, t.gate g = { s.gate g with useCount := (s.gate g).useCount - gone.countP fun m => m.gate == some g }

namespace State.Local

variable {s t u : State} {a : Axis} {gone more : List Move}

theorem refl (s : State) (a : Axis) : s.Local a [] s := ⟨fun _ _ => rfl, rfl, rfl, fun _ => rfl, fun _ => rfl⟩

theorem trans (h : s.Local a gone t) (k : t.Local a more u) : s.Local a (gone ++ more) u where
  others b hb := (k.others b hb).trans (h.others b hb)
  reports := k.reports.trans h.reports
  pool := by rw [k.pool, h.pool, List.length_append]; omega
  prof p := by rw [k.prof, h.prof, List.countP_append, ← Nat.sub_sub]
  gate g := by rw [k.gate, h.gate, List.countP_append, ← Nat.sub_sub]

theorem setAx (s : State) (a : Axis) (x : AxisState) : s.Local a [] (s.setAx a x) :=
  ⟨fun _ hb => ax_setAx_of_ne s hb x, rfl, rfl, fun _ => rfl, fun _ => rfl⟩

theorem modAx (s : State) (a : Axis) (f : AxisState → AxisState) : s.Local a [] (s.modAx a f) := setAx s a _

theorem release (s : State) (a : Axis) (m : Move) : s.Local a [m] (s.release m) where
  others b _ := ax_release s b m
  reports := by rw [release_eq]
  pool := release_poolFree s m
  prof p := by
    rw [prof_release]
    split <;> simp_all
  gate g := by
    rw [gate_release]
    split <;> simp_all

theorem endMove {m : Move} (h : (s.ax a).current = some m) (k : Finding) (aux : Nat) :
    s.Local a [m] (s.endMove a k aux) := by
  rw [endMove_of_some s a h]
  exact ((modAx s a _).trans (release _ a m)).trans (modAx _ a _)

theorem latch (s : State) (a : Axis) (flag : BitVec 3) : s.Local a [] (s.latch flag) :=
  ⟨fun _ _ => rfl, rfl, rfl, fun _ => rfl, fun _ => rfl⟩

theorem enterHalted (s : State) (a : Axis) (c : HaltCause) : s.Local a [] (s.enterHalted a c) :=
  (modAx s a _).trans (latch _ a _)

theorem offerReport (s : State) (a : Axis) (k : Finding) (tag : Byte) (aux : Nat) :
    s.Local a [] (s.offerReport a k tag aux) := modAx s a _

/-- The profiles time the moves as before. -/
theorem table (h : s.Local a gone t) : t.table = s.table := by
  funext p
  rw [State.table, h.prof]
  rfl

end State.Local

/-- The moves that slots hold, after one axis has given some up. -/
theorem moves_perm_of_axis {s t : State} {a : Axis} {gone : List Move} (others : ∀ b, b ≠ a → t.ax b = s.ax b)
    (h : ((t.ax a).moves ++ gone).Perm (s.ax a).moves) : (t.moves ++ gone).Perm s.moves := by
  rw [List.perm_iff_count] at h ⊢
  intro m
  have h := h m
  cases a <;>
    simp only [State.moves, List.count_append, others, ne_eq, reduceCtorEq, not_false_eq_true] at h ⊢ <;> omega

/-! ## What the invariants ask of a change -/

/-- The moves `gone` give up their slots and their use counts, and no axis takes a new move. -/
structure State.Frees (s : State) (gone : List Move) (t : State) : Prop where
  moves : (t.moves ++ gone).Perm s.moves
  kept : ∀ a, (t.ax a).moves ⊆ (s.ax a).moves
  pool : t.poolFree = s.poolFree + gone.length
  prof : ∀ p, (t.prof p).useCount = (s.prof p).useCount - gone.countP fun m => m.task.profile? == some p
  gate : ∀ g, (t.gate g).useCount = (s.gate g).useCount - gone.countP fun m => m.gate == some g

theorem State.Frees.refl (s : State) : s.Frees [] s :=
  ⟨by rw [List.append_nil], fun _ => List.Subset.refl _, rfl, fun _ => rfl, fun _ => rfl⟩

theorem State.Frees.trans {s t u : State} {gone more : List Move} (h : s.Frees gone t) (k : t.Frees more u) :
    s.Frees (gone ++ more) u where
  moves := by
    refine List.Perm.trans ?_ ((k.moves.append_right gone).trans h.moves)
    rw [List.append_assoc]
    exact List.perm_append_comm.append_left u.moves
  kept a _ hm := h.kept a (k.kept a hm)
  pool := by rw [k.pool, h.pool, List.length_append]; omega
  prof p := by rw [k.prof, h.prof, List.countP_append, ← Nat.sub_sub]
  gate g := by rw [k.gate, h.gate, List.countP_append, ← Nat.sub_sub]

/-- The guard on one gate's timer (R68, R77). -/
def Gate.Guarded (q : Gate) : Prop :=
  q.timeout ≤ 65535 ∧ (q.timer.isSome = true → q.arrivals ≠ 0 ∧ q.timeout ≠ 0) ∧
    q.timer.all (· ≤ q.timeout * 1000) = true

/-- A gate record that changes in what is left on its timer alone. -/
structure Gate.Keeps (q r : Gate) : Prop where
  members : r.members = q.members
  arrivals : r.arrivals = q.arrivals
  useCount : r.useCount = q.useCount
  guarded : q.Guarded → r.Guarded

theorem Gate.Keeps.refl (q : Gate) : q.Keeps q := ⟨rfl, rfl, rfl, id⟩

theorem Gate.Keeps.trans {q r v : Gate} (h : q.Keeps r) (k : r.Keeps v) : q.Keeps v :=
  ⟨k.1.trans h.1, k.2.trans h.2, k.3.trans h.3, k.4 ∘ h.4⟩

/-- An axis waits at a gate. -/
def AxisState.waitsAt (x : AxisState) (g : GateTag) : Bool := x.mode == .gated && x.current.any (·.gate == some g)

/-- An axis is in the arrival sets of the gates it waits at, and in no other (R73). -/
def State.WaitsExact (s : State) (a : Axis) : Prop := ∀ g, inSet (s.gate g).arrivals a = (s.ax a).waitsAt g

/-- What the invariants ask of a change, all but the shape of the axes and the exactness of the arrival sets, which can be broken
in the middle of a command. -/
structure State.Goes (s t : State) : Prop where
  axes : ∀ a, (s.ax a).Goes s.table (t.ax a)
  table : t.table = s.table
  frees : ∃ gone, s.Frees gone t
  members : ∀ g, (t.gate g).members = (s.gate g).members
  timers : ∀ g, (s.gate g).Guarded → (t.gate g).Guarded

/-- What the invariants ask of a change. -/
structure State.Runs (s t : State) : Prop extends s.Goes t where
  shaped : ∀ a, (t.ax a).shaped = true
  waits : ∀ a, s.WaitsExact a → t.WaitsExact a

namespace State

variable {s t u : State} {a : Axis} {gone : List Move}

theorem Goes.refl (s : State) : s.Goes s :=
  ⟨fun _ => .refl _, rfl, ⟨[], .refl s⟩, fun _ => rfl, fun _ => id⟩

theorem Goes.trans (h : s.Goes t) (k : t.Goes u) : s.Goes u where
  axes a := (h.axes a).trans (h.table ▸ k.axes a)
  table := k.table.trans h.table
  frees := by
    obtain ⟨gone, h⟩ := h.frees
    obtain ⟨more, k⟩ := k.frees
    exact ⟨gone ++ more, h.trans k⟩
  members g := (k.members g).trans (h.members g)
  timers g := k.timers g ∘ h.timers g

theorem Runs.refl (h : ∀ a, (s.ax a).shaped = true) : s.Runs s := ⟨.refl s, h, fun _ => id⟩

theorem Runs.trans (h : s.Runs t) (k : t.Runs u) : s.Runs u :=
  ⟨h.toGoes.trans k.toGoes, k.shaped, fun a => k.waits a ∘ h.waits a⟩

/-- A change that leaves an axis between two moves, for the next change to take one. -/
theorem Runs.after (h : s.Goes t) (waits : ∀ a, s.WaitsExact a → t.WaitsExact a) (k : t.Runs u) : s.Runs u :=
  ⟨h.trans k.toGoes, k.shaped, fun a => k.waits a ∘ waits a⟩

/-- Two states that differ only in items no invariant reads, and in what is left on the gate timers. -/
structure SameCore (s t : State) : Prop where
  axes : ∀ a, (t.ax a).core = (s.ax a).core
  pool : t.poolFree = s.poolFree
  prof : ∀ p, t.prof p = s.prof p
  gate : ∀ g, (s.gate g).Keeps (t.gate g)

/-- Two states with the same axes and the same shared tables. -/
theorem SameCore.of_eq (axes : t.axes = s.axes) (pool : t.poolFree = s.poolFree) (profiles : t.profiles = s.profiles)
    (gates : t.gates = s.gates) : s.SameCore t :=
  ⟨fun a => by rw [State.ax, axes]; rfl, pool, fun p => by rw [State.prof, profiles]; rfl,
    fun g => by rw [show t.gate g = s.gate g by rw [State.gate, gates]; rfl]; exact .refl _⟩

theorem SameCore.refl (s : State) : s.SameCore s := .of_eq rfl rfl rfl rfl

theorem SameCore.trans (h : s.SameCore t) (k : t.SameCore u) : s.SameCore u :=
  ⟨fun a => (k.axes a).trans (h.axes a), k.pool.trans h.pool, fun p => (k.prof p).trans (h.prof p),
    fun g => (h.gate g).trans (k.gate g)⟩

theorem SameCore.modAx (s : State) (a : Axis) (f : AxisState → AxisState) (h : (f (s.ax a)).core = (s.ax a).core) :
    s.SameCore (s.modAx a f) :=
  ⟨fun b => by
    rw [ax_modAx]
    split
    · next e => exact e ▸ h
    · rfl, rfl, fun _ => rfl, fun _ => .refl _⟩

theorem SameCore.goes (h : s.SameCore t) : s.Goes t where
  axes a := .of_core (h.axes a)
  table := by funext p; rw [State.table, h.prof p]; rfl
  frees := ⟨[],
    { moves := by
        simp only [State.moves, AxisState.Goes.moves_of_core (h.axes _), List.append_nil, List.Perm.refl]
      kept := fun a => by rw [AxisState.Goes.moves_of_core (h.axes a)]; exact List.Subset.refl _
      pool := h.pool
      prof := fun p => by rw [h.prof p]; rfl
      gate := fun g => (h.gate g).useCount }⟩
  members g := (h.gate g).members
  timers g := (h.gate g).guarded

theorem waitsAt_of_core {x y : AxisState} (h : y.core = x.core) (g : GateTag) : y.waitsAt g = x.waitsAt g :=
  AxisState.Goes.eq_of_core (·.waitsAt g) h fun _ => rfl

theorem SameCore.runs (h : s.SameCore t) (hs : ∀ a, (s.ax a).shaped = true) : s.Runs t :=
  ⟨h.goes, fun a => (AxisState.Goes.shaped_of_core (h.axes a)).trans (hs a),
    fun a k g => by rw [(h.gate g).arrivals, waitsAt_of_core (h.axes a)]; exact k g⟩

/-- Of a change on one axis that gives up the moves `gone`. -/
theorem Goes.of_local (h : s.Local a gone t) (axis : (s.ax a).Goes s.table (t.ax a))
    (moves : ((t.ax a).moves ++ gone).Perm (s.ax a).moves) : s.Goes t where
  axes b := by
    by_cases e : b = a
    · exact e ▸ axis
    · rw [h.others b e]; exact .refl _
  table := h.table
  frees := ⟨gone,
    { moves := moves_perm_of_axis h.others moves
      kept := fun b => by
        by_cases e : b = a
        · exact e ▸ fun m hm => moves.subset (List.mem_append_left _ hm)
        · rw [h.others b e]; exact List.Subset.refl _
      pool := h.pool
      prof := fun p => by rw [h.prof]
      gate := fun g => by rw [h.gate] }⟩
  members g := by rw [h.gate]
  timers g k := by rw [h.gate]; exact k

/-- Of a change on one axis that does not arrive at a gate nor leave one. -/
theorem Runs.of_local (h : s.Local a gone t) (others : ∀ b, b ≠ a → (s.ax b).shaped = true)
    (shaped : (t.ax a).shaped = true) (axis : (s.ax a).Goes s.table (t.ax a))
    (moves : ((t.ax a).moves ++ gone).Perm (s.ax a).moves) (waits : ∀ g, (t.ax a).waitsAt g = (s.ax a).waitsAt g) :
    s.Runs t where
  toGoes := .of_local h axis moves
  shaped b := by
    by_cases e : b = a
    · exact e ▸ shaped
    · rw [h.others b e]; exact others b e
  waits b k g := by
    rw [h.gate]
    by_cases e : b = a
    · subst e
      rw [waits g]
      exact k g
    · rw [h.others b e]
      exact k g

theorem waitsAt_of_not_gated {x : AxisState} (h : x.mode ≠ .gated) (g : GateTag) : x.waitsAt g = false := by
  simp [AxisState.waitsAt, h]

end State
end Sys2Proof.Machine
end

section
/-! SUPPORT. The shared operations, one lemma each: from a state whose axes have their shapes each leads to another and keeps
every invariant on the way. -/

namespace Sys2Proof.Machine

/-! ## Ends (R47) -/

/-- The items of an axis that say which moves it has and how it is set up. -/
def AxisState.holdings (x : AxisState) :=
  (x.queue, x.current, x.held, x.owed, x.config, x.limitMin, x.limitMax)

/-- A move ends the same from an axis whose run has gone on. -/
theorem AxisState.Ends.congr {x z : AxisState} {m : Move} (h : x.Ends x m) (same : z.holdings = x.holdings)
    (position : x.Range → Config.minPosition ≤ z.position ∧ z.position ≤ Config.maxPosition) : x.Ends z m := by
  obtain ⟨enabled, current, held, owed, enable, -, -, -, -, -⟩ := h
  simp only [AxisState.holdings, Prod.mk.injEq] at same
  obtain ⟨q, c, e, o, f, l, r⟩ := same
  exact ⟨enabled, c ▸ current, e ▸ held, o ▸ owed, f ▸ enable, by rw [AxisState.moves, q, c, e]; exact .refl _,
    (congrArg List.length q).le, f, ⟨l, r⟩, position⟩

namespace State

variable {s t u : State} {a : Axis} {m : Move}

/-- The axis after the ends procedure. -/
theorem ax_endMove_ended (h : (s.ax a).current = some m) (k : Finding) (aux : Nat) :
    (s.endMove a k aux).ax a = (s.ax a).ended
      { report := { axis := a, finding := k, tag := m.tag, position := (s.ax a).position, aux := aux }, path := k.path } :=
  ax_endMove_self s a h k aux

theorem waitsAt_ended (z : AxisState) (o : Offer) (g : GateTag) : (z.ended o).waitsAt g = false := rfl

theorem runs_endMove (h : s.Local a [] u) (others : ∀ b, b ≠ a → (s.ax b).shaped = true)
    (not_gated : (s.ax a).mode ≠ .gated) (ends : (s.ax a).Ends (u.ax a) m) {k : Finding}
    (path : (u.ax a).cause = .none ∨ k.path ≠ .cont) (aux : Nat) : s.Runs (u.endMove a k aux) := by
  have whole := h.trans (Local.endMove ends.current k aux)
  refine .of_local whole others ?_ ?_ ?_ fun g => ?_
  · rw [ax_endMove_ended ends.current]; exact ends.shaped path
  · rw [ax_endMove_ended ends.current]; exact ends.goes _
  · rw [ax_endMove_ended ends.current]; exact ends.moves_ended _
  · rw [ax_endMove_ended ends.current, waitsAt_ended, waitsAt_of_not_gated not_gated]

/-- A moving axis has a current move with a profile, and neither a held move, an offer, an owed report nor a cause. -/
theorem ends_of_moving {x : AxisState} (h : x.shaped = true) (moving : x.mode.running = true ∨ x.mode = .stopping) :
    ∃ m, x.Ends x m ∧ x.cause = .none ∧ x.offer = none := by
  have shape := AxisState.shape h
  obtain ⟨⟨m, p, current, profile⟩, held, offer⟩ := shape.moving moving
  rw [running_iff] at moving
  have enabled : x.mode ≠ .disabled := by grind
  exact ⟨m, ⟨enabled, current, held, shape.owed (by grind), by rw [shape.enable]; simpa using enabled, .refl _, le_rfl, rfl,
    ⟨rfl, rfl⟩, fun r => r.position⟩, shape.cause (by grind) (by grind), offer⟩

theorem ends_of_dwelling {x : AxisState} (h : x.shaped = true) (dwelling : x.mode = .dwelling) :
    ∃ m, x.Ends x m ∧ x.cause = .none ∧ x.offer = none := by
  have shape := AxisState.shape h
  obtain ⟨⟨m, ms, current, task⟩, held, offer⟩ := shape.dwelling dwelling
  exact ⟨m, ⟨by simp [dwelling], current, held, shape.owed (by simp [dwelling]), by rw [shape.enable]; simp [dwelling],
    .refl _, le_rfl, rfl, ⟨rfl, rfl⟩, fun r => r.position⟩, shape.cause (by simp [dwelling]) (by simp [dwelling]), offer⟩

theorem not_gated_of_moving {x : AxisState} (moving : x.mode.running = true ∨ x.mode = .stopping) : x.mode ≠ .gated := by
  rw [running_iff] at moving; grind

/-- At rest a move ends with one report or another (R44, R45). -/
theorem endAtRest_eq (h : (s.ax a).current = some m) : ∃ k aux, s.endAtRest a = s.endMove a k aux := by
  unfold State.endAtRest
  dsimp only
  split
  · exact ⟨_, _, rfl⟩
  · exact ⟨_, _, rfl⟩
  · next e _ => simp [h] at e

/-- A moving axis whose run has gone on to its end. -/
theorem runs_endAtRest (hs : ∀ b, (s.ax b).shaped = true) (moving : (s.ax a).mode.running = true ∨ (s.ax a).mode = .stopping)
    (h : s.Local a [] u) (same : (u.ax a).holdings = (s.ax a).holdings) (cause : (u.ax a).cause = (s.ax a).cause)
    (position : (s.ax a).Range → Config.minPosition ≤ (u.ax a).position ∧ (u.ax a).position ≤ Config.maxPosition) :
    s.Runs (u.endAtRest a) := by
  obtain ⟨m, ends, none, -⟩ := ends_of_moving (hs a) moving
  have ends := ends.congr same position
  obtain ⟨k, aux, e⟩ := endAtRest_eq ends.current
  rw [e]
  exact runs_endMove h (fun b _ => hs b) (not_gated_of_moving moving) ends (.inl (cause.trans none)) aux

/-! ## Re-plans and pulses (R23, R24, R28) -/

/-- An axis that stays in its running states or STOPPING, with its moves as they were. -/
theorem runs_moving (hs : ∀ b, (s.ax b).shaped = true) (f : AxisState → AxisState)
    (moving : (s.ax a).mode.running = true ∨ (s.ax a).mode = .stopping)
    (shaped : (f (s.ax a)).shaped = true) (axis : (s.ax a).Goes s.table (f (s.ax a)))
    (moves : (f (s.ax a)).moves = (s.ax a).moves)
    (moves_on : (f (s.ax a)).mode.running = true ∨ (f (s.ax a)).mode = .stopping) : s.Runs (s.modAx a f) := by
  refine .of_local (.modAx s a f) (fun b _ => hs b) ?_ ?_ ?_ fun g => ?_ <;> rw [ax_modAx_self]
  · exact shaped
  · exact axis
  · rw [moves, List.append_nil]
  · rw [waitsAt_of_not_gated (not_gated_of_moving moving), waitsAt_of_not_gated (not_gated_of_moving moves_on)]

/-- The shape of a moving axis says nothing of what its ramp counts. -/
theorem shaped_of_moving {x y : AxisState} (h : x.shaped = true) (moving : x.mode.running = true ∨ x.mode = .stopping)
    (same : y.holdings = x.holdings) (offer : y.offer = x.offer) (cause : y.cause = x.cause) (step : y.ramp.step.isSome = true)
    (mode : y.mode.running = true ∧ y.intent = none ∨ y.mode = .stopping ∧ y.intent.isSome = true) : y.shaped = true := by
  obtain ⟨m, ⟨enabled, current, held, owed, enable, -⟩, none, no_offer⟩ := ends_of_moving h moving
  obtain ⟨⟨n, p, cur, profile⟩, -, -⟩ := (AxisState.shape h).moving moving
  obtain rfl : m = n := Option.some.inj (current.symm.trans cur)
  simp only [AxisState.holdings, Prod.mk.injEq] at same
  obtain ⟨-, c, e, o, f, -, -⟩ := same
  rw [running_iff] at mode
  obtain ⟨run | run | run, intent⟩ | ⟨run, intent⟩ := mode <;>
    simp [AxisState.shaped, run, c, e, o, f, current, held, owed, enable, profile, offer, no_offer, cause, none, step, intent,
      Mode.running]

theorem intent_of_moving {x : AxisState} (h : x.shaped = true) (moving : x.mode.running = true ∨ x.mode = .stopping) :
    x.mode.running = true ∧ x.intent = none ∨ x.mode = .stopping ∧ x.intent.isSome = true := by
  have intent := (AxisState.shape h).intent
  rcases moving with run | stop
  · refine .inl ⟨run, ?_⟩
    rw [running_iff] at run
    have : x.mode ≠ .stopping := by grind
    simpa [beq_false_of_ne this] using intent
  · exact .inr ⟨stop, by simpa [stop] using intent⟩

/-- A re-plan in one expression (R28). -/
theorem replan_eq (s : State) (a : Axis) (r : Nat) :
    s.replan a r =
      if r = 0 then (s.modAx a (·.withStep 0 none)).endAtRest a
      else s.modAx a fun x => x.withStep r (some ((s.prof x.ramp.profile).decide x.ramp.k r)) := rfl

theorem runs_replan (hs : ∀ b, (s.ax b).shaped = true) (moving : (s.ax a).mode.running = true ∨ (s.ax a).mode = .stopping)
    (r : Nat) (rest : (s.ax a).Range → 0 < r → ∀ m, (s.ax a).current = some m →
      ((s.ax a).withStep r none).restInRange m.task = true) :
    s.Runs (s.replan a r) := by
  rw [replan_eq]
  split
  · exact runs_endAtRest hs moving (.modAx s a _) (by rw [ax_modAx_self]; rfl) (by rw [ax_modAx_self]; rfl) fun h => by
      rw [ax_modAx_self]; exact h.position
  · next nonzero =>
    have pos := Nat.pos_of_ne_zero nonzero
    exact runs_moving hs _ moving
      (shaped_of_moving (x := s.ax a) (hs a) moving rfl rfl rfl rfl (intent_of_moving (x := s.ax a) (hs a) moving))
      (.plan moving pos fun h => rest h pos) rfl moving

theorem replan_le (hs : ∀ b, (s.ax b).shaped = true) (moving : (s.ax a).mode.running = true ∨ (s.ax a).mode = .stopping)
    {r : Nat} (le : r ≤ (s.ax a).ramp.r) : s.Runs (s.replan a r) :=
  runs_replan hs moving r fun h _ m hm => restInRange_mono ((h.rest moving).2 m hm) le

/-- The count and the step that a re-plan finds do not matter. -/
theorem replan_congr {f g : AxisState → AxisState}
    (h : ∀ r st, (f (s.ax a)).withStep r st = (g (s.ax a)).withStep r st) (r : Nat) :
    (s.modAx a f).replan a r = (s.modAx a g).replan a r := by
  have profile : (f (s.ax a)).ramp.profile = (g (s.ax a)).ramp.profile := congrArg (·.ramp.profile) (h 0 none)
  have k : (f (s.ax a)).ramp.k = (g (s.ax a)).ramp.k := congrArg (·.ramp.k) (h 0 none)
  simp only [replan_eq, modAx_modAx]
  simp only [State.modAx, prof_setAx, profile, k, h]

theorem runs_stop (hs : ∀ b, (s.ax b).shaped = true) (running : (s.ax a).mode.running = true) (k : Finding) :
    s.Runs (s.modAx a fun x => { x with mode := .stopping, intent := some k }) :=
  runs_moving hs _ (.inl running)
    (shaped_of_moving (hs a) (.inl running) rfl rfl rfl
      (by rw [show ({ s.ax a with mode := Mode.stopping, intent := some k } : AxisState).ramp = (s.ax a).ramp from rfl,
            (AxisState.shape (hs a)).step, running]; rfl)
      (.inr ⟨rfl, rfl⟩))
    (.stop running _) rfl (.inr rfl)

/-- A pulse that is not the move's last, with its next step decided. -/
theorem runs_advance (hs : ∀ b, (s.ax b).shaped = true)
    (moving : (s.ax a).mode.running = true ∨ (s.ax a).mode = .stopping) {st : PendingStep}
    (step : (s.ax a).ramp.step = some st) (more : (s.ax a).ramp.r - 1 ≠ 0) :
    s.Runs (s.modAx a fun x => x.advanced s.table st) := by
  obtain ⟨m, ends, -, -⟩ := ends_of_moving (hs a) moving
  refine runs_moving hs _ moving (shaped_of_moving (x := s.ax a) (hs a) moving rfl rfl rfl rfl ?_)
    (.advance moving step ends.current more) rfl (AxisState.emit_mode _ _)
  obtain ⟨run, intent⟩ | ⟨stop, intent⟩ := intent_of_moving (hs a) moving
  · have not_stopping : (s.ax a).mode ≠ .stopping := by rw [running_iff] at run; grind
    exact .inl ⟨AxisState.emit_running not_stopping st, intent⟩
  · exact .inr ⟨by simp [AxisState.advanced, AxisState.emit, stop], intent⟩

/-- After a pulse the next step is decided as the advance of the axis has it. -/
theorem replan_emit {st : PendingStep} (more : ((s.ax a).emit st).ramp.r ≠ 0) :
    (s.modAx a (·.emit st)).replan a ((s.ax a).emit st).ramp.r = s.modAx a fun x => x.advanced s.table st := by
  rw [replan_eq, if_neg more, modAx_modAx]
  rfl

theorem runs_pulse (hs : ∀ b, (s.ax b).shaped = true) (moving : (s.ax a).mode.running = true ∨ (s.ax a).mode = .stopping) :
    s.Runs (s.pulse a) := by
  unfold State.pulse
  split
  · exact .refl hs
  next st step =>
  obtain ⟨m, ends, -, -⟩ := ends_of_moving (hs a) moving
  dsimp only
  rw [ax_modAx_self]
  split
  · exact runs_endAtRest hs moving (.modAx s a _) (by rw [ax_modAx_self]; rfl) (by rw [ax_modAx_self]; rfl) fun h => by
      rw [ax_modAx_self]; exact position_step h moving ends.current
  next more =>
  have advance := runs_advance hs moving step more
  split
  · next closed =>
    have running : ((s.modAx a fun x => x.advanced s.table st).ax a).mode.running = true := by
      rw [ax_modAx_self]
      exact (AxisState.emit_mode (s.ax a) st).resolve_right closed.1
    have stop := runs_stop advance.shaped running (.missed .closed)
    have replan := replan_le (a := a) (r := ((s.ax a).emit st).ramp.stoppingDistance) stop.shaped
      (.inr (by rw [ax_modAx_self])) (by rw [modAx_modAx, ax_modAx_self]; exact Nat.min_le_left _ _)
    refine (advance.trans stop).trans ?_
    rw [modAx_modAx] at replan ⊢
    rw [modAx_modAx,
      replan_congr (g := fun x => { x.advanced s.table st with mode := .stopping, intent := some (.missed .closed) })
        fun _ _ => rfl]
    exact replan
  · rw [replan_emit more]
    exact advance

/-- An axis whose pending step is overdue moves. -/
theorem moving_of_step (hs : ∀ b, (s.ax b).shaped = true) (h : (s.ax a).ramp.overdue = true) :
    (s.ax a).mode.running = true ∨ (s.ax a).mode = .stopping := by
  have step := (AxisState.shape (hs a)).step
  obtain ⟨st, e, -⟩ := (Option.any_eq_true _ _).1 h
  simpa [e] using step.symm

theorem runs_replanNow (hs : ∀ b, (s.ax b).shaped = true)
    (moving : (s.ax a).mode.running = true ∨ (s.ax a).mode = .stopping)
    (r : Nat) (rest : (s.ax a).Range → 0 < r → ∀ m, (s.ax a).current = some m →
      ((s.ax a).withStep r none).restInRange m.task = true) : s.Runs (s.replanNow a r) := by
  have replan := runs_replan hs moving r rest
  unfold State.replanNow
  dsimp only
  split
  · next overdue => exact replan.trans (runs_pulse replan.shaped (moving_of_step replan.shaped overdue))
  · exact replan

theorem runs_controlledStop (hs : ∀ b, (s.ax b).shaped = true) (running : (s.ax a).mode.running = true)
    (intent : Option Finding) : s.Runs (s.controlledStop a intent) := by
  have stops {t : State} (ht : ∀ b, (t.ax b).shaped = true)
      (moving : (t.ax a).mode.running = true ∨ (t.ax a).mode = .stopping) :
      t.Runs (t.replanNow a (t.ax a).ramp.stoppingDistance) :=
    runs_replanNow ht moving _ fun h _ m hm => restInRange_mono ((h.rest moving).2 m hm) (Nat.min_le_left _ _)
  unfold State.controlledStop
  cases intent with
  | none => exact stops hs (.inl running)
  | some k =>
    have stop := runs_stop hs running k
    exact stop.trans (stops stop.shaped (.inr (by rw [ax_modAx_self])))

end State
end Sys2Proof.Machine
end

section
/-! SUPPORT. Starts, gates, takes and grants: from a state whose axes have their shapes each leads to another and keeps every
invariant on the way. -/

namespace Sys2Proof.Machine

/-! ## Sets of axes -/

@[simp] theorem inSet_zero (a : Axis) : inSet 0#4 a = false := by simp [inSet]

theorem inSet_axisBit (a b : Axis) : inSet (axisBit a) b = decide (b = a) := by cases a <;> cases b <;> decide

/-- An arrival adds its axis to the set. -/
theorem inSet_or_axisBit (set : AxisSet) (a b : Axis) : inSet (set ||| axisBit a) b = (inSet set b || decide (b = a)) := by
  rw [← inSet_axisBit]; simp [inSet]

/-- A withdrawal takes its axis out of the set. -/
theorem inSet_and_not_axisBit (set : AxisSet) (a b : Axis) :
    inSet (set &&& ~~~(axisBit a)) b = (inSet set b && !decide (b = a)) := by
  rw [← inSet_axisBit]; cases b <;> simp [inSet, Axis.idx]

namespace Gate.Guarded

variable {q : Gate}

/-- An arrival starts the timer from a nonzero timeout alone (R74). -/
theorem arrive (h : q.Guarded) (a : Axis) : (q.arrive a).Guarded := by
  obtain ⟨timeout, runs, left⟩ := h
  have nonempty : q.arrivals ||| axisBit a ≠ 0 := fun e => by
    simpa [e] using inSet_or_axisBit q.arrivals a a
  refine ⟨timeout, fun k => ⟨nonempty, ?_⟩, ?_⟩
  · by_cases starts : q.arrivals = 0 ∧ q.timeout ≠ 0
    · exact starts.2
    · simp only [Gate.arrive, starts, if_false] at k
      exact (runs k).2
  · by_cases starts : q.arrivals = 0 ∧ q.timeout ≠ 0
    · simp [Gate.arrive, starts]
    · simpa only [Gate.arrive, starts, if_false] using left

/-- A withdrawal that empties the set stops the timer (R79). -/
theorem withdraw (h : q.Guarded) (a : Axis) : (q.withdraw a).Guarded := by
  obtain ⟨timeout, runs, left⟩ := h
  refine ⟨timeout, fun k => ?_, ?_⟩ <;> by_cases last : q.arrivals &&& ~~~(axisBit a) = 0
  · simp [Gate.withdraw, last] at k
  · simp only [Gate.withdraw, last, if_false] at k ⊢
    exact ⟨last, (runs k).2⟩
  · simp [Gate.withdraw, last]
  · simpa only [Gate.withdraw, last, if_false] using left

theorem emptied (h : q.Guarded) : ({ q with arrivals := 0, timer := none } : Gate).Guarded := ⟨h.1, by simp, rfl⟩

end Gate.Guarded

/-- The axis with a move as its current one, its planned end formed (R39, R40). -/
def AxisState.taking (x : AxisState) (m : Move) : AxisState :=
  { x with current := some m, plannedEnd := m.task.plannedEnd x.position }

/-- An axis between two moves, free to take the next one: IDLE, or following a CONTINUE path, or at a RESUME. -/
structure AxisState.Between (x : AxisState) : Prop where
  mode : x.mode = .idle ∨ x.mode = .reporting ∨ x.mode = .halted
  current : x.current = none
  held : x.held = none
  offer : x.offer = none
  owed : x.owed = none
  cause : x.cause = .none
  intent : x.intent = none
  step : x.ramp.step = none
  enable : x.config.enable = true

namespace State

variable {s t u : State} {a : Axis} {m : Move} {gone : List Move}

/-- A change of one gate's arrival set and timer. -/
theorem goes_modGate (s : State) (g : GateTag) (f : Gate → Gate) (members : (f (s.gate g)).members = (s.gate g).members)
    (useCount : (f (s.gate g)).useCount = (s.gate g).useCount) (timer : (s.gate g).Guarded → (f (s.gate g)).Guarded) :
    s.Goes (s.modGate g f) where
  axes a := .refl _
  table := rfl
  frees := ⟨[],
    { Frees.refl s with
      gate := fun h => by
        rw [gate_modGate]
        split
        · next e => rw [e, useCount]; rfl
        · rfl }⟩
  members h := by
    rw [gate_modGate]
    split
    · next e => rw [e, members]
    · rfl
  timers h k := by
    rw [gate_modGate]
    split
    · next e => exact timer (e ▸ k)
    · exact k

/-- An axis that arrives at no gate and leaves none keeps the arrival sets exact. -/
theorem waits_of_local (h : s.Local a gone t) (waits : ∀ g, (t.ax a).waitsAt g = (s.ax a).waitsAt g) (b : Axis)
    (k : s.WaitsExact b) : t.WaitsExact b := fun g => by
  rw [h.gate]
  by_cases e : b = a
  · subst e
    rw [waits g]
    exact k g
  · rw [h.others b e]
    exact k g

/-! ## Starts (R42) -/

/-- A start loads the dwell timer, ends a move that is already where it is to be, or begins to run. -/
theorem startMove_cases (hm : (s.ax a).current = some m) :
    (∃ ms, m.task = .dwell ms ∧ s.startMove a = s.modAx a (·.startDwell ms)) ∨
    (∃ p, m.task.profile? = some p ∧ ((s.ax a).distance m.task ≠ 0 ∨ ∃ v b, m.task = .seek v p b) ∧
      s.startMove a = s.modAx a fun x => x.startRun (s.prof p) p m.task (x.distance m.task)) ∨
    (∃ (k : Finding) (b : Bool), s.startMove a =
      (s.modAx a fun x => { x with position := if b then 0 else x.position }).endMove a k 0) := by
  have stays : (s.modAx a fun x => { x with position := if false then 0 else x.position }) = s := setAx_ax s a
  unfold State.startMove
  simp only [hm]
  cases task : m.task with
  | dwell ms => exact .inl ⟨ms, rfl, rfl⟩
  | seek v p b =>
    dsimp only
    split
    · exact .inr (.inr ⟨_, b, rfl⟩)
    · exact .inr (.inl ⟨p, rfl, .inr ⟨v, b, rfl⟩, rfl⟩)
  | absolute v p mark =>
    dsimp only
    split
    · exact .inr (.inr ⟨_, false, by rw [stays]⟩)
    · next far => exact .inr (.inl ⟨p, rfl, .inl far, rfl⟩)
  | relative v p mark =>
    dsimp only
    split
    · exact .inr (.inr ⟨_, false, by rw [stays]⟩)
    · next far => exact .inr (.inl ⟨p, rfl, .inl far, rfl⟩)

/-- An operation that takes one axis out of the states that wait at a gate, or leaves it outside them. -/
structure Leaves (a : Axis) (s t : State) : Prop where
  goes : s.Goes t
  shaped : ∀ b, (t.ax b).shaped = true
  not_gated : (t.ax a).mode ≠ .gated
  single : ∃ gone, s.Local a gone t

theorem Leaves.runs (h : s.Leaves a t) (not_gated : (s.ax a).mode ≠ .gated) : s.Runs t := by
  obtain ⟨gone, single⟩ := h.single
  exact ⟨h.goes, h.shaped, fun b => waits_of_local single (fun g => by
    rw [waitsAt_of_not_gated h.not_gated, waitsAt_of_not_gated not_gated]) b⟩

/-- One axis changes, the others have their shapes. -/
theorem Leaves.of_local (h : s.Local a gone t) (others : ∀ b, b ≠ a → (s.ax b).shaped = true)
    (shaped : (t.ax a).shaped = true) (axis : (s.ax a).Goes s.table (t.ax a))
    (moves : ((t.ax a).moves ++ gone).Perm (s.ax a).moves) (not_gated : (t.ax a).mode ≠ .gated) : s.Leaves a t where
  goes := .of_local h axis moves
  shaped b := by
    by_cases e : b = a
    · exact e ▸ shaped
    · rw [h.others b e]; exact others b e
  not_gated := not_gated
  single := ⟨_, h⟩

theorem leaves_endMove (h : s.Local a [] u) (others : ∀ b, b ≠ a → (s.ax b).shaped = true)
    (ends : (s.ax a).Ends (u.ax a) m) {k : Finding} (path : (u.ax a).cause = .none ∨ k.path ≠ .cont) (aux : Nat) :
    s.Leaves a (u.endMove a k aux) := by
  have whole := h.trans (Local.endMove ends.current k aux)
  refine .of_local whole others ?_ ?_ ?_ ?_ <;> rw [ax_endMove_ended ends.current]
  · exact ends.shaped path
  · exact ends.goes _
  · exact ends.moves_ended _
  · simp [AxisState.ended]

theorem leaves_startMove (h : s.Local a [] u) (others : ∀ b, b ≠ a → (s.ax b).shaped = true)
    (ready : (s.ax a).Readies (u.ax a) m) (passes : (s.ax a).Range → (u.ax a).Passes m) :
    s.Leaves a (u.startMove a) := by
  obtain ⟨ms, task, e⟩ | ⟨p, profile, far, e⟩ | ⟨k, b, e⟩ := startMove_cases ready.current <;> rw [e]
  · refine .of_local (h.trans (.modAx u a _)) others ?_ ?_ ?_ ?_ <;> rw [ax_modAx_self]
    · exact ready.shaped_startDwell task
    · exact ready.goes_startDwell ms
    · simp only [List.append_nil]; exact ready.moves
    · simp [AxisState.startDwell]
  · refine .of_local (h.trans (.modAx u a _)) others ?_ ?_ ?_ ?_ <;> rw [ax_modAx_self]
    · exact ready.shaped_startRun _ profile _ _ _
    · refine ready.goes_startRun _ profile passes (fun range => ?_) (by rw [← h.table]; rfl)
      rcases far with far | ⟨v, b, seek⟩
      · exact far
      · have legal := ready.legal range
        rw [seek] at legal ⊢
        simpa [Task.legal, AxisState.distance] using (Bool.and_eq_true_iff.1 legal).2
    · simp only [List.append_nil]; exact ready.moves
    · simp [AxisState.startRun]
  · have ends : (s.ax a).Ends ((u.modAx a fun x => { x with position := if b then 0 else x.position }).ax a) m := by
      rw [ax_modAx_self]
      refine { ready.ends with position := fun range => ?_ }
      cases b
      · exact ready.place range
      · exact zero_in_range
    exact leaves_endMove (h.trans (.modAx u a _)) others ends (.inl (by rw [ax_modAx_self]; exact ready.cause)) 0

/-! ## Gates that empty (R76, R78) -/

/-- What holds after each axis is visited in turn. -/
theorem forAxes_each {f : Axis → State → State} {I : State → Prop} {P : Axis → State → Prop}
    (inv : ∀ a s, I s → I (f a s)) (there : ∀ a s, I s → P a (f a s))
    (stays : ∀ a b s, b ≠ a → I s → P a s → P a (f b s)) (hs : I s) :
    I (State.forAxes f s) ∧ ∀ a, P a (State.forAxes f s) := by
  have hA := inv .A s hs
  have hB := inv .B _ hA
  have hC := inv .C _ hB
  refine ⟨inv .D _ hC, fun a => ?_⟩
  cases a with
  | A => exact stays _ _ _ (by decide) hC (stays _ _ _ (by decide) hB (stays _ _ _ (by decide) hA (there .A _ hs)))
  | B => exact stays _ _ _ (by decide) hC (stays _ _ _ (by decide) hB (there .B _ hA))
  | C => exact stays _ _ _ (by decide) hC (there .C _ hB)
  | D => exact there .D _ hC

/-- An axis waits at one gate at most. -/
theorem waitsAt_of_ne {x : AxisState} {g k : GateTag} (ne : k ≠ g) (h : x.waitsAt g = true) : x.waitsAt k = false := by
  simp only [AxisState.waitsAt, Bool.and_eq_true, beq_iff_eq, Option.any_eq_true] at h
  obtain ⟨gated, m, current, gate⟩ := h
  simp [AxisState.waitsAt, current, gate, ne.symm]

/-- While the arrival set of gate `g` of `s` empties: each axis is as it was, or has left the gate. -/
structure Emptying (s : State) (g : GateTag) (u : State) : Prop where
  goes : s.Goes u
  shaped : ∀ b, (u.ax b).shaped = true
  arrivals : ∀ k, (u.gate k).arrivals = if k = g then 0 else (s.gate k).arrivals
  axes : ∀ b, u.ax b = s.ax b ∨ inSet (s.gate g).arrivals b = true ∧ (u.ax b).mode ≠ .gated

theorem emptying_start (hs : ∀ a, (s.ax a).shaped = true) (g : GateTag) :
    s.Emptying g (s.modGate g fun q => { q with arrivals := 0, timer := none }) where
  goes := goes_modGate s g _ rfl rfl Gate.Guarded.emptied
  shaped := hs
  arrivals k := by rw [gate_modGate]; split <;> rfl
  axes _ := .inl rfl

theorem Emptying.leave {g : GateTag} (h : s.Emptying g u) (leave : u.Leaves a t)
    (inside : inSet (s.gate g).arrivals a = true) : s.Emptying g t := by
  obtain ⟨gone, single⟩ := leave.single
  refine ⟨h.goes.trans leave.goes, leave.shaped, fun k => by rw [single.gate]; exact h.arrivals k, fun b => ?_⟩
  by_cases e : b = a
  · exact e ▸ .inr ⟨inside, leave.not_gated⟩
  · rw [single.others b e]; exact h.axes b

/-- When every axis of the set has left, the arrival sets are exact again. -/
theorem Emptying.runs {g : GateTag} (h : s.Emptying g t)
    (left : ∀ b, (t.ax b).mode = .gated → inSet (s.gate g).arrivals b = false) : s.Runs t := by
  refine ⟨h.goes, h.shaped, fun b exact_b k => ?_⟩
  have out : inSet (if k = g then 0 else (s.gate k).arrivals) b = if k = g then false else (s.ax b).waitsAt k := by
    split
    · exact inSet_zero b
    · exact exact_b k
  rw [h.arrivals k, out]
  rcases h.axes b with same | ⟨inside, not_gated⟩
  · rw [same]
    split
    · next e =>
      subst e
      by_cases gated : (s.ax b).mode = .gated
      · rw [← exact_b k, left b (same ▸ gated)]
      · rw [waitsAt_of_not_gated gated]
    · rfl
  · rw [waitsAt_of_not_gated not_gated]
    split
    · rfl
    · next ne => exact waitsAt_of_ne ne ((exact_b g).symm.trans inside)

/-- A gate whose arrival set empties, each of its waiting axes leaving it by one and the same operation. -/
theorem runs_emptied {h : Axis → State → State} (hs : ∀ a, (s.ax a).shaped = true)
    (leave : ∀ (a : Axis) (u : State), (∀ b, (u.ax b).shaped = true) → (u.ax a).mode = .gated → u.Leaves a (h a u))
    (g : GateTag) :
    s.Runs (State.forAxes (fun a u => if inSet (s.gate g).arrivals a ∧ (u.ax a).mode = .gated then h a u else u)
      (s.modGate g fun q => { q with arrivals := 0, timer := none })) := by
  have all := forAxes_each
    (f := fun a u => if inSet (s.gate g).arrivals a ∧ (u.ax a).mode = .gated then h a u else u)
    (I := s.Emptying g) (P := fun a u => (u.ax a).mode = .gated → inSet (s.gate g).arrivals a = false)
    (fun a u emptying => ?_) (fun a u emptying gated => ?_) (fun a b u ne emptying k => ?_) (emptying_start hs g)
  · exact all.1.runs all.2
  · split
    · next waits => exact emptying.leave (leave a u emptying.shaped waits.2) waits.1
    · exact emptying
  · split at gated
    · next waits => exact absurd gated (leave a u emptying.shaped waits.2).not_gated
    · next waits => simpa [gated] using waits
  · split
    · next waits =>
      obtain ⟨gone, single⟩ := (leave b u emptying.shaped waits.2).single
      rw [single.others a ne.symm]
      exact k
    · exact k

/-- A shaped GATED axis is its own axis about to start, in range of its limit check. -/
theorem readies_of_gated {x : AxisState} (h : x.shaped = true) (gated : x.mode = .gated) :
    ∃ m, x.Readies x m ∧ (x.Range → x.Passes m) ∧ ∃ g, m.gate = some g := by
  have shape := AxisState.shape h
  obtain ⟨⟨m, g, current, gate⟩, held, offer⟩ := shape.gated gated
  have step := shape.step
  have intent := shape.intent
  simp only [gated, Mode.running, Bool.false_or, show (Mode.gated == Mode.stopping) = false from rfl,
    Option.isSome_eq_false_iff, Option.isNone_iff_eq_none] at step intent
  exact ⟨m, ⟨by simp [gated], current, held, offer, shape.owed (by simp [gated]), shape.cause (by simp [gated]) (by simp [gated]),
    intent, step, by rw [shape.enable]; simp [gated], .refl _, le_rfl, rfl, ⟨rfl, rfl⟩, rfl⟩,
    fun r => r.gated gated m current, g, gate⟩

theorem runs_fireGate (hs : ∀ a, (s.ax a).shaped = true) (g : GateTag) : s.Runs (s.fireGate g) :=
  runs_emptied (h := fun a u => u.startMove a) hs (fun a u shaped gated => by
    obtain ⟨m, ready, passes, -⟩ := readies_of_gated (shaped a) gated
    exact leaves_startMove (.refl u a) (fun b _ => shaped b) ready passes) g

/-! ## Takes (R39, R41, R74) -/

theorem runs_arrive (h : s.Local a [] u) (others : ∀ b, b ≠ a → (s.ax b).shaped = true)
    (ready : (s.ax a).Readies (u.ax a) m) (passes : (s.ax a).Range → (u.ax a).Passes m) {g : GateTag}
    (gate : m.gate = some g) (not_gated : (s.ax a).mode ≠ .gated) : s.Runs (u.arrive a g) := by
  have whole := h.trans (.modAx u a .arrived)
  have axes := Goes.of_local whole (by rw [ax_modAx_self]; exact ready.goes_gated passes)
    (by rw [ax_modAx_self]; simp only [List.append_nil]; exact ready.moves)
  have joins := goes_modGate (u.modAx a AxisState.arrived) g
    (·.arrive a) rfl rfl (Gate.Guarded.arrive · a)
  have there : s.Runs ((u.modAx a AxisState.arrived).modGate g
      (·.arrive a)) := by
    refine ⟨axes.trans joins, fun b => ?_, fun b exact_b k => ?_⟩
    · rw [ax_modGate]
      by_cases e : b = a
      · rw [e, ax_modAx_self]; exact ready.shaped_gated gate
      · rw [whole.others b e]; exact others b e
    · have arrivals : (u.gate k).arrivals = (s.gate k).arrivals := by rw [h.gate]
      rw [ax_modGate, gate_modGate]
      by_cases e : b = a
      · subst e
        have waits : ((u.modAx b AxisState.arrived).ax b).waitsAt k = (g == k) := by
          rw [ax_modAx_self, AxisState.waitsAt, show (u.ax b).arrived.current = some m from ready.current]
          simp [AxisState.arrived, gate]
        rw [waits]
        split
        · next at_g => simp [at_g, Gate.arrive, inSet_or_axisBit]
        · next ne => rw [gate_modAx, arrivals, exact_b k, waitsAt_of_not_gated not_gated]; simp [Ne.symm ne]
      · rw [whole.others b e, ← exact_b k]
        split
        · next at_g => subst at_g; simp [Gate.arrive, inSet_or_axisBit, e, arrivals]
        · rw [gate_modAx, arrivals]
  unfold State.arrive
  dsimp only
  split
  · exact there.trans (runs_fireGate there.shaped g)
  · exact there


/-- What a take does once the move is the current one: it ends at the limit check, arrives at its gate, or starts (R39). -/
theorem take_eq (s : State) (a : Axis) (m : Move) :
    s.take a m =
      match ((s.modAx a (·.taking m)).ax a).limitCheck m.task with
      | some detail => (s.modAx a (·.taking m)).endMove a (.limit detail) 0
      | none =>
        match m.gate with
        | some g => (s.modAx a (·.taking m)).arrive a g
        | none => (s.modAx a (·.taking m)).startMove a := rfl

theorem runs_take (h : s.Local a [] u) (others : ∀ b, b ≠ a → (s.ax b).shaped = true)
    (not_gated : (s.ax a).mode ≠ .gated) (ready : (s.ax a).Readies ((u.ax a).taking m) m) : s.Runs (u.take a m) := by
  have there := h.trans (Local.modAx u a (·.taking m))
  have self : (u.modAx a (·.taking m)).ax a = (u.ax a).taking m := ax_modAx_self u a _
  rw [← self] at ready
  rw [take_eq]
  split
  · exact (leaves_endMove there others ready.ends (.inr (by simp [Finding.path])) 0).runs not_gated
  · next passes =>
    have passes : ((u.modAx a (·.taking m)).ax a).Passes m := ⟨by rw [self]; rfl, passes⟩
    split
    · next gate => exact runs_arrive there others ready (fun _ => passes) gate not_gated
    · exact (leaves_startMove there others ready fun _ => passes).runs not_gated

theorem readies_of_between {x : AxisState} (h : x.Between) {rest : List Move} (queue : x.queue = m :: rest) :
    x.Readies ({ x with queue := rest }.taking m) m := by
  obtain ⟨mode, current, held, offer, owed, cause, intent, step, enable⟩ := h
  exact ⟨by grind, rfl, held, offer, owed, cause, intent, step, enable,
    by simp [AxisState.moves, AxisState.taking, queue, current, held], by simp [AxisState.taking, queue], rfl, ⟨rfl, rfl⟩, rfl⟩

/-- An axis between two moves takes the head of its queue, or becomes IDLE (R16, R53). -/
theorem runs_takeNext (between : (s.ax a).Between) (others : ∀ b, b ≠ a → (s.ax b).shaped = true) :
    s.Runs (s.takeNext a) := by
  have not_gated : (s.ax a).mode ≠ .gated := by have := between.mode; grind
  cases queue : (s.ax a).queue with
  | nil =>
    rw [takeNext_of_nil queue]
    obtain ⟨mode, current, held, offer, owed, cause, intent, step, enable⟩ := between
    refine .of_local (.modAx s a _) others ?_ ?_ ?_ fun g => ?_ <;> rw [ax_modAx_self]
    · simp [AxisState.shaped, queue, current, held, offer, owed, cause, intent, step, enable, Mode.running]
    · exact .of_rest (by grind) (.inl rfl) le_rfl rfl ⟨rfl, rfl⟩ (List.Subset.refl _) fun r => r.position
    · simp [AxisState.moves]
    · rw [waitsAt_of_not_gated (by simp), waitsAt_of_not_gated not_gated]
  | cons m rest =>
    rw [takeNext_of_cons queue]
    refine runs_take (.modAx s a _) others not_gated ?_
    rw [ax_modAx_self]
    exact readies_of_between between queue

end State
end Sys2Proof.Machine
end

section
/-! SUPPORT. Grants, withdrawals, stops, drive faults and edges: from a state whose axes have their shapes each leads to another
and keeps every invariant on the way. -/

namespace Sys2Proof.Machine

namespace State

variable {s t u : State} {a : Axis} {m : Move} {gone : List Move}

/-! ## Axes at rest -/

/-- An enabled axis comes to rest, or leaves the gate it waited at, with its moves as they were. -/
theorem goes_rest (h : s.Local a [] t) (enabled : (s.ax a).mode ≠ .disabled)
    (rest : (t.ax a).mode = .idle ∨ (t.ax a).mode = .halted ∨ (t.ax a).mode = .reporting ∨ (t.ax a).mode = .dwelling)
    (queue : (t.ax a).queue = (s.ax a).queue) (config : (t.ax a).config = (s.ax a).config)
    (limits : (t.ax a).limitMin = (s.ax a).limitMin ∧ (t.ax a).limitMax = (s.ax a).limitMax)
    (position : (t.ax a).position = (s.ax a).position) (moves : (t.ax a).moves.Perm (s.ax a).moves) : s.Goes t :=
  .of_local h
    (.of_rest enabled rest (congrArg List.length queue).le config limits moves.subset fun r => position ▸ r.position)
    (by rw [List.append_nil]; exact moves)

/-- An axis at rest turns to another state of rest. -/
theorem runs_rest (h : s.Local a [] t) (hs : ∀ b, (s.ax b).shaped = true)
    (mode : (s.ax a).mode = .idle ∨ (s.ax a).mode = .halted ∨ (s.ax a).mode = .reporting)
    (shaped : (t.ax a).shaped = true)
    (rest : (t.ax a).mode = .idle ∨ (t.ax a).mode = .halted ∨ (t.ax a).mode = .reporting)
    (queue : (t.ax a).queue = (s.ax a).queue) (config : (t.ax a).config = (s.ax a).config)
    (limits : (t.ax a).limitMin = (s.ax a).limitMin ∧ (t.ax a).limitMax = (s.ax a).limitMax)
    (position : (t.ax a).position = (s.ax a).position) (moves : (t.ax a).moves = (s.ax a).moves) : s.Runs t := by
  have goes := goes_rest h (by grind) (by tauto) queue config limits position (.of_eq moves)
  refine ⟨goes, fun b => ?_, fun b => waits_of_local h (fun g => ?_) b⟩
  · by_cases e : b = a
    · exact e ▸ shaped
    · rw [h.others b e]; exact hs b
  · rw [waitsAt_of_not_gated (by grind), waitsAt_of_not_gated (by grind)]

/-! ## Grants (R50 to R53) -/

theorem mode_of_offer {x : AxisState} (h : x.shaped = true) (offer : x.offer ≠ none) : x.mode = .reporting := by
  have shape := AxisState.shape h
  by_contra not_reporting
  refine offer ?_
  cases mode : x.mode with
  | disabled => exact (shape.empty (.inl mode)).2.2.2
  | idle => exact (shape.empty (.inr mode)).2.2.2
  | gated => exact (shape.gated mode).2.2
  | accel | cruise | decel => exact (shape.moving (.inl (by rw [mode]; rfl))).2.2
  | dwelling => exact (shape.dwelling mode).2.2
  | stopping => exact (shape.moving (.inr mode)).2.2
  | reporting => exact absurd mode not_reporting
  | halted => exact (shape.halted mode).2

/-- An axis at rest has no current move, an enabled configuration, no pending step and no stop intent. -/
theorem facts_of_rest {x : AxisState} (h : x.shaped = true)
    (mode : x.mode = .idle ∨ x.mode = .halted ∨ x.mode = .reporting) :
    x.current = none ∧ x.config.enable = true ∧ x.intent = none ∧ x.ramp.step = none := by
  have shape := AxisState.shape h
  have step := shape.step
  have intent := shape.intent
  have enable := shape.enable
  have current : x.current = none := by
    rcases mode with mode | mode | mode
    · exact (shape.empty (.inr mode)).2.1
    · exact (shape.halted mode).1
    · exact (shape.reporting mode).1
  refine ⟨current, ?_, Option.not_isSome_iff_eq_none.1 ?_, Option.not_isSome_iff_eq_none.1 ?_⟩
  · rw [enable]; rcases mode with mode | mode | mode <;> rw [mode] <;> rfl
  · rw [intent]; rcases mode with mode | mode | mode <;> rw [mode] <;> decide
  · rw [step]; rcases mode with mode | mode | mode <;> rw [mode] <;> decide

theorem runs_deposit (hs : ∀ b, (s.ax b).shaped = true) (r : Report) : s.Runs (s.deposit r) :=
  SameCore.runs (.of_eq rfl rfl rfl rfl) hs

/-- What an axis does once its report is deposited: it builds the DRIVEFAULT it owes, or follows its path (R51, R52). -/
def delivered (s : State) (a : Axis) (path : Path) : State :=
  match (s.ax a).owed with
  | some detail =>
    (s.modAx a fun x => { x with offer := none, owed := none }).offerReport a (.driveFault detail) 0 0
  | none => (s.modAx a fun x => { x with offer := none }).followPath a path

theorem grant_eq {o : Offer} (offer : (s.ax a).offer = some o) :
    s.grant a = (s.deposit o.report).delivered a o.path := by
  unfold State.grant delivered
  rw [offer, ax_deposit]
  simp only [ax_modAx_self, ax_deposit, modAx_modAx] <;> cases (s.ax a).owed <;> rfl

theorem runs_delivered (hs : ∀ b, (s.ax b).shaped = true) {o : Offer} (offer : (s.ax a).offer = some o) :
    s.Runs (s.delivered a o.path) := by
  have mode := mode_of_offer (hs a) (by simp [offer])
  obtain ⟨current, enable, intent, step⟩ := facts_of_rest (hs a) (.inr (.inr mode))
  obtain ⟨-, p, offer', path⟩ := (AxisState.shape (hs a)).reporting mode
  obtain rfl : o = p := Option.some.inj (offer.symm.trans offer')
  unfold delivered
  split
  · refine runs_rest (a := a) ((Local.modAx s a _).trans (.modAx _ a _)) hs (by simp [mode]) ?_ ?_ ?_ ?_ ?_ ?_ ?_ <;>
      rw [ax_offerReport_self, ax_modAx_self]
    · simp [AxisState.shaped, current, enable, intent, step, Finding.path, Mode.running]
    · simp
    · exact ⟨rfl, rfl⟩
    · rfl
  · next owes =>
    cases h : o.path with
    | halted cause =>
      refine runs_rest (a := a) ((Local.modAx s a _).trans (.enterHalted _ a _)) hs (by simp [mode]) ?_ ?_ ?_ ?_ ?_ ?_ ?_ <;>
        rw [State.followPath, ax_enterHalted_self, ax_modAx_self]
      · simp [AxisState.shaped, current, enable, intent, step, owes, Mode.running]
      · simp
      · exact ⟨rfl, rfl⟩
      · rfl
    | cont =>
      obtain ⟨held, cause⟩ := path h
      have between : ((s.modAx a fun x => { x with offer := none }).ax a).Between := by
        rw [ax_modAx_self]
        exact ⟨by simp [mode], current, held, rfl, owes, cause owes, intent, step, enable⟩
      have others (b : Axis) (e : b ≠ a) : ((s.modAx a fun x => { x with offer := none }).ax b).shaped = true := by
        rw [ax_modAx_of_ne s e]; exact hs b
      have offered := Local.modAx s a fun x => { x with offer := none }
      refine .after (goes_rest offered (by simp [mode]) ?_ ?_ ?_ ?_ ?_ ?_) (fun b => waits_of_local offered (fun g => ?_) b)
        (runs_takeNext between others) <;> rw [ax_modAx_self]
      · simp [mode]
      · exact ⟨rfl, rfl⟩
      · exact .refl _
      · rfl

theorem runs_grant (hs : ∀ b, (s.ax b).shaped = true) : s.Runs (s.grant a) := by
  cases offer : (s.ax a).offer with
  | none => rw [State.grant, offer]; exact .refl hs
  | some o =>
    rw [grant_eq offer]
    exact (runs_deposit hs o.report).trans (runs_delivered (runs_deposit hs o.report).shaped offer)

theorem runs_settle (hs : ∀ b, (s.ax b).shaped = true) : s.Runs s.settle := by
  unfold State.settle
  generalize Config.reportPlaces - s.reports.reports.length = n
  induction n generalizing s with
  | zero => exact .refl hs
  | succ n ih =>
    rw [State.grantPlaces]
    split
    · exact .refl hs
    · have grant := runs_grant (a := by assumption) hs
      exact grant.trans (ih grant.shaped)

/-! ## Withdrawals (R79, R80, R82) -/

@[simp] theorem ax_withdraw (s : State) (a b : Axis) : (s.withdraw a).ax b = s.ax b := by
  unfold State.withdraw; split <;> rfl

theorem withdraw_of_gate {g : GateTag} (current : (s.ax a).current = some m) (gate : m.gate = some g) :
    s.withdraw a = s.modGate g (·.withdraw a) := by
  simp [State.withdraw, current, gate]

/-- A change that keeps the current move of its axis comes before or after a withdrawal alike. -/
theorem withdraw_modAx {f : AxisState → AxisState} (h : (f (s.ax a)).current = (s.ax a).current) :
    (s.modAx a f).withdraw a = (s.withdraw a).modAx a f := by
  unfold State.withdraw
  rw [ax_modAx_self, h]
  split <;> rfl

/-- A GATED axis that leaves its gate. -/
theorem runs_withdrawn (hs : ∀ b, (s.ax b).shaped = true) (gated : (s.ax a).mode = .gated)
    (h : (s.withdraw a).Local a gone t) (shaped : (t.ax a).shaped = true) (axis : (s.ax a).Goes s.table (t.ax a))
    (moves : ((t.ax a).moves ++ gone).Perm (s.ax a).moves) (left : (t.ax a).mode ≠ .gated) : s.Runs t := by
  obtain ⟨m, ready, -, g, gate⟩ := readies_of_gated (hs a) gated
  rw [withdraw_of_gate ready.current gate] at h
  have goes := goes_modGate s g (·.withdraw a) rfl rfl (Gate.Guarded.withdraw · a)
  refine ⟨goes.trans (.of_local h axis moves), fun b => ?_, fun b exact_b k => ?_⟩
  · by_cases e : b = a
    · exact e ▸ shaped
    · rw [h.others b e]; exact hs b
  · have waits : (s.ax a).waitsAt k = (g == k) := by simp [AxisState.waitsAt, gated, ready.current, gate]
    rw [h.gate, gate_modGate]
    by_cases e : b = a
    · subst e
      rw [waitsAt_of_not_gated left]
      split
      · simp [Gate.withdraw, inSet_and_not_axisBit]
      · next ne => simp [exact_b k, waits, Ne.symm ne]
    · rw [h.others b e, ax_modGate, ← exact_b k]
      split
      · next at_g => simp [at_g, Gate.withdraw, inSet_and_not_axisBit, e]
      · rfl

/-! ## Holds, stops and faults (R17, R81, R82, R115 to R118, R140 to R143) -/

/-- A GATED axis leaves its gate for a state of rest, its move held. -/
theorem runs_hold (hs : ∀ b, (s.ax b).shaped = true) (gated : (s.ax a).mode = .gated) (h : (s.withdraw a).Local a [] t)
    (held : (t.ax a).held = (s.ax a).current) (current : (t.ax a).current = none)
    (same : (t.ax a).queue = (s.ax a).queue ∧ (t.ax a).config = (s.ax a).config ∧ (t.ax a).limitMin = (s.ax a).limitMin ∧
      (t.ax a).limitMax = (s.ax a).limitMax ∧ (t.ax a).position = (s.ax a).position)
    (rest : (t.ax a).mode = .halted ∨ (t.ax a).mode = .reporting) (shaped : (t.ax a).shaped = true) : s.Runs t := by
  obtain ⟨queue, config, low, high, position⟩ := same
  obtain ⟨m, ready, -⟩ := readies_of_gated (hs a) gated
  have moves : (t.ax a).moves.Perm (s.ax a).moves := by
    simp [AxisState.moves, held, current, queue, ready.current, ready.held]
  refine runs_withdrawn hs gated h shaped ?_ (by rw [List.append_nil]; exact moves) (by grind)
  exact .of_rest (by simp [gated]) (by tauto) (congrArg List.length queue).le config ⟨low, high⟩ moves.subset fun r =>
    position ▸ r.position

/-- The shape of an axis that was GATED and rests with its move held. -/
theorem leaves_timeout (hs : ∀ b, (s.ax b).shaped = true) (gated : (s.ax a).mode = .gated) (g : GateTag) (set : AxisSet) :
    s.Leaves a (s.timeoutAxis a g set) := by
  obtain ⟨m, ready, -⟩ := readies_of_gated (hs a) gated
  refine .of_local ((Local.modAx s a _).trans (.offerReport _ a _ _ _)) (fun b _ => hs b) ?_ ?_ ?_ ?_ <;>
    rw [State.timeoutAxis, ax_offerReport_self, ax_modAx_self]
  · simp [AxisState.shaped, AxisState.hold, ready.owed, ready.enable, ready.intent, ready.step, Finding.path, Mode.running]
  · refine .of_rest (by simp [gated]) (by simp) le_rfl rfl ⟨rfl, rfl⟩ ?_ fun r => r.position
    simp [AxisState.moves, AxisState.hold, ready.current, ready.held]
  · simp [AxisState.moves, AxisState.hold, ready.current, ready.held]
  · simp

theorem runs_expireGate (hs : ∀ b, (s.ax b).shaped = true) (g : GateTag) : s.Runs (s.expireGate g) :=
  runs_emptied (h := fun a u => u.timeoutAxis a g (s.gate g).arrivals) hs
    (fun _ _ shaped gated => leaves_timeout shaped gated g _) g

/-- An IDLE axis enters HALTED (R54). -/
theorem runs_halt (hs : ∀ b, (s.ax b).shaped = true) (mode : (s.ax a).mode = .idle) (cause : HaltCause) :
    s.Runs (s.enterHalted a cause) := by
  obtain ⟨current, enable, intent, step⟩ := facts_of_rest (hs a) (.inl mode)
  have shape := AxisState.shape (hs a)
  have offer := (shape.empty (.inr mode)).2.2.2
  have owed := shape.owed (by simp [mode])
  refine runs_rest (.enterHalted s a cause) hs (.inl mode) ?_ ?_ ?_ ?_ ?_ ?_ ?_ <;> rw [ax_enterHalted_self]
  · simp [AxisState.shaped, current, offer, enable, intent, step, owed, Mode.running]
  · simp
  · exact ⟨rfl, rfl⟩
  · rfl

theorem runs_stopAxis (hs : ∀ b, (s.ax b).shaped = true) (source : StopSource) (a : Axis) :
    s.Runs (State.stopAxis source a s) := by
  have running (run : (s.ax a).mode.running = true) : s.Runs
      (match s.style with
      | .controlled => s.controlledStop a (some (.stopped source))
      | .immediate => s.endMove a (.stopped source) (s.ax a).ramp.stepsRun) := by
    obtain ⟨m, ends, cause, -⟩ := ends_of_moving (hs a) (.inl run)
    split
    · exact runs_controlledStop hs run _
    · exact runs_endMove (.refl s a) (fun b _ => hs b) (not_gated_of_moving (.inl run)) ends (.inl cause) _
  unfold State.stopAxis
  dsimp only
  split <;> rename_i mode
  · exact running (by rw [mode]; rfl)
  · exact running (by rw [mode]; rfl)
  · exact running (by rw [mode]; rfl)
  · obtain ⟨m, ends, cause, -⟩ := ends_of_dwelling (hs a) mode
    exact runs_endMove (.refl s a) (fun b _ => hs b) (by simp [mode]) ends (.inl cause) _
  · obtain ⟨m, ready, -⟩ := readies_of_gated (hs a) mode
    refine runs_hold hs mode ((Local.modAx _ a _).trans (.enterHalted _ a _)) ?_ ?_ ?_ ?_ ?_ <;>
      rw [ax_enterHalted_self, ax_modAx_self, ax_withdraw]
    · rfl
    · rfl
    · exact ⟨rfl, rfl, rfl, rfl, rfl⟩
    · simp
    · simp [AxisState.shaped, AxisState.hold, ready.offer, ready.owed, ready.enable, ready.intent, ready.step, Mode.running]
  · exact runs_halt hs mode source.cause
  · obtain ⟨current, enable, intent, step⟩ := facts_of_rest (hs a) (.inr (.inr mode))
    obtain ⟨-, o, offer, path⟩ := (AxisState.shape (hs a)).reporting mode
    refine runs_rest (.modAx s a _) hs (.inr (.inr mode)) ?_ ?_ ?_ ?_ ?_ ?_ ?_ <;> rw [ax_modAx_self]
    · by_cases cont : o.path = .cont <;>
        simp [AxisState.shaped, mode, current, enable, intent, step, offer, cont, Mode.running]
    · exact .inr (.inr mode)
    · exact ⟨rfl, rfl⟩
    · rfl
  all_goals exact .refl hs

theorem forAxes_runs {f : Axis → State → State}
    (step : ∀ (a : Axis) (u : State), (∀ b, (u.ax b).shaped = true) → u.Runs (f a u)) (hs : ∀ b, (s.ax b).shaped = true) :
    s.Runs (State.forAxes f s) := by
  have hA := step .A s hs
  have hB := step .B _ hA.shaped
  have hC := step .C _ hB.shaped
  exact ((hA.trans hB).trans hC).trans (step .D _ hC.shaped)

theorem runs_stopAll (hs : ∀ b, (s.ax b).shaped = true) (source : StopSource) : s.Runs (s.stopAll source) :=
  forAxes_runs (fun a _ hu => runs_stopAxis hu source a) hs

theorem runs_driveFault (hs : ∀ b, (s.ax b).shaped = true) (a : Axis) (d : DriveDetail) : s.Runs (s.driveFault a d) := by
  have caused := Local.modAx s a fun x => { x with cause := .drive }
  have moving (move : (s.ax a).mode.running = true ∨ (s.ax a).mode = .stopping) :
      s.Runs ((s.modAx a fun x => { x with cause := .drive }).endMove a (.driveFault d) (s.ax a).ramp.stepsRun) := by
    obtain ⟨m, ends, -⟩ := ends_of_moving (hs a) move
    refine runs_endMove caused (fun b _ => hs b) (not_gated_of_moving move) (m := m) ?_ (.inr (by simp [Finding.path])) _
    rw [ax_modAx_self]
    exact ends.congr rfl fun r => r.position
  have resting (mode : (s.ax a).mode = .idle ∨ (s.ax a).mode = .halted) (tag : Byte) :
      s.Runs ((s.modAx a fun x => { x with cause := .drive }).offerReport a (.driveFault d) tag 0) := by
    obtain ⟨current, enable, intent, step⟩ := facts_of_rest (hs a) (by tauto)
    have owed := (AxisState.shape (hs a)).owed (by grind)
    refine runs_rest (caused.trans (.offerReport _ a _ _ _)) hs (by tauto) ?_ ?_ ?_ ?_ ?_ ?_ ?_ <;>
      rw [ax_offerReport_self, ax_modAx_self]
    · simp [AxisState.shaped, current, enable, intent, step, owed, Finding.path, Mode.running]
    · simp
    · exact ⟨rfl, rfl⟩
    · rfl
  unfold State.driveFault
  dsimp only
  split <;> rename_i mode
  · exact .refl hs
  · exact moving (.inl (by rw [mode]; rfl))
  · exact moving (.inl (by rw [mode]; rfl))
  · exact moving (.inl (by rw [mode]; rfl))
  · exact moving (.inr mode)
  · obtain ⟨m, ends, -⟩ := ends_of_dwelling (hs a) mode
    refine runs_endMove caused (fun b _ => hs b) (by simp [mode]) (m := m) ?_ (.inr (by simp [Finding.path])) _
    rw [ax_modAx_self]
    exact ends.congr rfl fun r => r.position
  · obtain ⟨m, ready, -⟩ := readies_of_gated (hs a) mode
    rw [withdraw_modAx rfl]
    refine runs_hold hs mode (((Local.modAx _ a _).trans (.modAx _ a _)).trans (.offerReport _ a _ _ _)) ?_ ?_ ?_ ?_ ?_ <;>
      rw [ax_offerReport_self, ax_modAx_self, ax_modAx_self, ax_withdraw]
    · rfl
    · rfl
    · exact ⟨rfl, rfl, rfl, rfl, rfl⟩
    · simp
    · simp [AxisState.shaped, AxisState.hold, ready.owed, ready.enable, ready.intent, ready.step, Finding.path, Mode.running]
  · exact resting (.inl mode) _
  · exact resting (.inr mode) _
  · obtain ⟨current, enable, intent, step⟩ := facts_of_rest (hs a) (.inr (.inr mode))
    obtain ⟨-, o, offer, path⟩ := (AxisState.shape (hs a)).reporting mode
    refine runs_rest (caused.trans (.modAx _ a _)) hs (.inr (.inr mode)) ?_ ?_ ?_ ?_ ?_ ?_ ?_ <;>
      rw [ax_modAx_self, ax_modAx_self]
    · have held (cont : o.path = .cont) : (s.ax a).held = none := (path cont).1
      by_cases cont : o.path = .cont <;>
        simp [AxisState.shaped, mode, current, enable, intent, step, offer, cont, held, Mode.running]
    · exact .inr (.inr mode)
    · exact ⟨rfl, rfl⟩
    · rfl

theorem runs_examine (hs : ∀ b, (s.ax b).shaped = true) (a : Axis) : s.Runs (State.examine a s) := by
  have stopped : s.Runs (if s.stop.qualified = .low ∧ (s.ax a).mode = .idle then s.enterHalted a .stopLine else s) := by
    split
    · next h => exact runs_halt hs h.2 _
    · exact .refl hs
  unfold State.examine
  dsimp only
  generalize (if s.stop.qualified = .low ∧ (s.ax a).mode = .idle then s.enterHalted a .stopLine else s) = u at stopped ⊢
  split
  · exact stopped.trans (runs_driveFault stopped.shaped _ _)
  · exact stopped

/-! ## Edges (R89, R93, R103) -/

theorem SameCore.trailingEdge (s : State) (a : Axis) : s.SameCore (s.trailingEdge a) := by
  unfold State.trailingEdge
  dsimp only
  split
  · exact .modAx s a _ rfl
  · exact .refl s

theorem SameCore.passMark (s : State) (a : Axis) : s.SameCore (s.passMark a) := by
  have choice : s.SameCore { s with choices := s.choices + 1 } := .of_eq rfl rfl rfl rfl
  unfold State.passMark
  split
  · dsimp only
    split
    · exact (choice.trans (.modAx _ a _ rfl)).trans (.trailingEdge _ a)
    · exact choice
  · exact .refl s

/-- A mark with a registration part re-plans its move (R99, R100). -/
theorem runs_register (hs : ∀ b, (s.ax b).shaped = true) (running : (s.ax a).mode.running = true)
    (current : (s.ax a).current = some m) (seek : ∀ v p b, m.task ≠ .seek v p b) (d : Nat) : s.Runs (s.register a d) := by
  have noted : s.SameCore (s.modAx a fun x =>
      { x with mark := { x.mark with registration := ((s.ax a).registration d).1 } }) := .modAx s a _ rfl
  refine (noted.runs hs).trans (runs_replanNow (noted.runs hs).shaped (by rw [ax_modAx_self]; exact .inl running) _ ?_)
  rw [ax_modAx_self]
  intro range _ n hn
  obtain rfl : m = n := Option.some.inj (current.symm.trans hn)
  exact restInRange_registration (x := s.ax a) ((range.rest (.inl running)).2 m current) range.limits.2.1 seek d

/-- The edge of a SEEK (R103). -/
theorem runs_edge (hs : ∀ b, (s.ax b).shaped = true) (running : (s.ax a).mode.running = true)
    (current : (s.ax a).current = some m) {v : Int} {p : ProfileNo} {z : Bool} (seek : m.task = .seek v p z) :
    s.Runs (s.modAx a fun x =>
      { x with
        position := if z then 0 else x.position
        mark := { x.mark with search := .found, edgeSteps := x.ramp.stepsRun } }) := by
  have step : (s.ax a).ramp.step.isSome = true := by rw [(AxisState.shape (hs a)).step, running]; rfl
  refine runs_moving hs _ (.inl running) (shaped_of_moving (hs a) (.inl running) rfl rfl rfl step
    (intent_of_moving (hs a) (.inl running))) ?_ rfl (.inl running)
  cases z
  · exact .of_core rfl
  · exact (AxisState.Goes.zero running current seek).trans (.of_core rfl)

theorem runs_leadingEdge (hs : ∀ b, (s.ax b).shaped = true) (a : Axis) : s.Runs (s.leadingEdge a) := by
  have mark {m : Move} (running : (s.ax a).mode.running = true) (current : (s.ax a).current = some m)
      (seek : ∀ v p b, m.task ≠ .seek v p b) (part : MarkPart) : s.Runs
        (if (s.ax a).mark.window = .opened then
          let s := s.modAx a fun x =>
            { x with
              mark := { x.mark with window := .found, position := some x.position, width := .counting, widthCount := 0 } }
          match part.stopDistance with
          | none => s
          | some d => (if s.replansAtOnce a d then s.passMark a else s).register a d
        else s) := by
    split
    · dsimp only
      have marks : s.SameCore (s.modAx a fun x => { x with
          mark := { x.mark with window := .found, position := some x.position, width := .counting, widthCount := 0 } }) :=
        .modAx s a _ rfl
      generalize (s.modAx a fun x => { x with
          mark := { x.mark with window := .found, position := some x.position, width := .counting, widthCount := 0 } }) = u
        at marks ⊢
      split
      · exact marks.runs hs
      · next d _ =>
        have passed : s.SameCore (if u.replansAtOnce a d then u.passMark a else u) := by
          split
          · exact marks.trans (.passMark u a)
          · exact marks
        have mode := AxisState.Goes.eq_of_core AxisState.mode (passed.axes a) fun _ => rfl
        have cur := AxisState.Goes.eq_of_core AxisState.current (passed.axes a) fun _ => rfl
        exact (passed.runs hs).trans
          (runs_register (passed.runs hs).shaped (by rw [mode]; exact running) (cur.trans current) seek d)
    · exact .refl hs
  unfold State.leadingEdge
  dsimp only
  split
  · next running =>
    cases current : (s.ax a).current with
    | none => exact .refl hs
    | some m =>
      rw [Option.map_some]
      split
      · next h =>
        have seek := Option.some.inj h
        split
        · exact (runs_edge hs running current seek).trans
            (runs_controlledStop (runs_edge hs running current seek).shaped (by rw [ax_modAx_self]; exact running) none)
        · exact .refl hs
      · next h => exact mark running current (by simp [Option.some.inj h]) _
      · next h => exact mark running current (by simp [Option.some.inj h]) _
      all_goals exact .refl hs
  · exact .refl hs

end State
end Sys2Proof.Machine
end

section
/-! SUPPORT. What each command does to the invariants: it keeps them all, but for the few commands that write the setup or take
in a move. -/

namespace Sys2Proof.Machine

namespace State

variable {s t u : State} {a : Axis} {m : Move} {gone : List Move}

/-! ## Acceptances (R88, R114, R137) -/

theorem runs_acceptSens (hs : ∀ b, (s.ax b).shaped = true) (a : Axis) : s.Runs (s.acceptSens a) := by
  have accepts : s.SameCore (s.modAx a fun x => { x with sens := x.sens.accept }) := .modAx s a _ rfl
  have accepts := accepts.runs hs
  unfold State.acceptSens
  dsimp only
  split
  · exact accepts.trans (runs_leadingEdge accepts.shaped a)
  · exact accepts.trans (SameCore.runs (.trailingEdge _ a) accepts.shaped)

theorem runs_takeSens (hs : ∀ b, (s.ax b).shaped = true) (a : Axis) : s.Runs (s.takeSens a) :=
  (runs_acceptSens hs a).trans (runs_settle (runs_acceptSens hs a).shaped)

theorem runs_sensPin (hs : ∀ b, (s.ax b).shaped = true) (a : Axis) (level : Level) : s.Runs (s.sensPin a level) := by
  unfold State.sensPin
  split
  · exact .refl hs
  · have left : s.Runs (if (s.ax a).sens.leaves level (s.ax a).config.filter then s.takeSens a else s) := by
      split
      · exact runs_takeSens hs a
      · exact .refl hs
    dsimp only
    generalize (if (s.ax a).sens.leaves level (s.ax a).config.filter then s.takeSens a else s) = u at left ⊢
    have sets : u.SameCore (u.modAx a fun x => { x with sens := x.sens.setPin level }) := .modAx u a _ rfl
    have set := left.trans (sets.runs left.shaped)
    split
    · exact set.trans (runs_takeSens set.shaped a)
    · exact set

theorem runs_takeFlt (hs : ∀ b, (s.ax b).shaped = true) (a : Axis) : s.Runs (s.takeFlt a) := by
  have accepts : s.SameCore (s.acceptFlt a) := .modAx s a _ rfl
  have accepts := accepts.runs hs
  unfold State.takeFlt
  split
  · have faults := accepts.trans (runs_driveFault accepts.shaped a .driverInput)
    exact faults.trans (runs_settle faults.shaped)
  · exact accepts

theorem runs_fltPin (hs : ∀ b, (s.ax b).shaped = true) (a : Axis) (level : Level) : s.Runs (s.fltPin a level) := by
  have left : s.Runs (if (s.ax a).drive.flt.leaves level Config.lineFilter then s.takeFlt a else s) := by
    split
    · exact runs_takeFlt hs a
    · exact .refl hs
  have sets (u : State) : u.SameCore
      (u.modAx a fun x => { x with drive := { x.drive with flt := x.drive.flt.setPin level } }) := .modAx u a _ rfl
  exact left.trans ((sets _).runs left.shaped)

theorem runs_takeStop (hs : ∀ b, (s.ax b).shaped = true) : s.Runs s.takeStop := by
  have accepts : s.Runs { s with stop := s.stop.accept } := SameCore.runs (.of_eq rfl rfl rfl rfl) hs
  unfold State.takeStop
  dsimp only
  split
  · have latches : s.Runs ({ s with stop := s.stop.accept }.latch flagSTOPIN) := SameCore.runs (.of_eq rfl rfl rfl rfl) hs
    have stops := latches.trans (runs_stopAll latches.shaped .line)
    exact stops.trans (runs_settle stops.shaped)
  · exact accepts

theorem runs_stopPin (hs : ∀ b, (s.ax b).shaped = true) (level : Level) : s.Runs (s.stopPin level) := by
  have left : s.Runs (if s.stop.leaves level Config.lineFilter then s.takeStop else s) := by
    split
    · exact runs_takeStop hs
    · exact .refl hs
  exact left.trans (SameCore.runs (.of_eq rfl rfl rfl rfl) left.shaped)

/-! ## Timed events -/

theorem runs_takeSample (hs : ∀ b, (s.ax b).shaped = true) (a : Axis) (step dir : Level) :
    s.Runs (s.takeSample a step dir) := by
  unfold State.takeSample
  split
  · exact .refl hs
  · have read : s.SameCore (s.modAx a fun x =>
        { x with drive := { x.drive with stepPin := step, dirPin := dir, sample := none } }) := .modAx s a _ rfl
    have read := read.runs hs
    dsimp only
    split
    · exact read
    · next d _ =>
      have faults := read.trans (runs_driveFault read.shaped a d)
      exact faults.trans (runs_settle faults.shaped)

/-- 1 µs moves no item that an invariant reads, and no timer beyond its timeout. -/
theorem SameCore.tick (s : State) : s.SameCore s.tick := by
  cases held : s.inReset with
  | true => rw [tick_of_inReset s held]; exact .refl s
  | false =>
    refine ⟨fun a => by rw [ax_tick s a held]; rfl, ?_, fun p => ?_, fun g => ?_⟩
    · simp [State.tick, held]
    · simp [State.tick, held, State.prof]
    · rw [gate_tick s g held]
      refine ⟨rfl, rfl, rfl, fun ⟨timeout, runs, left⟩ => ⟨timeout, ?_, ?_⟩⟩
      · simpa using runs
      · cases timer : (s.gate g).timer with
        | none => rfl
        | some us =>
          simp only [timer, Option.all_some, decide_eq_true_eq, Option.map_some] at left ⊢
          omega

/-! ## Commands to one axis -/

theorem runs_result (hs : ∀ b, (s.ax b).shaped = true) (r : Result) : s.Runs (s.result r) :=
  SameCore.runs (.of_eq rfl rfl rfl rfl) hs

theorem runs_settled (h : s.Runs t) : s.Runs t.settle := h.trans (runs_settle h.shaped)

theorem runs_applyAbort (hs : ∀ b, (s.ax b).shaped = true) : s.Runs s.applyAbort := by
  have ok := runs_result hs .ok
  unfold State.applyAbort
  dsimp only
  split <;> rename_i mode
  · exact runs_settled (ok.trans (runs_controlledStop ok.shaped (by rw [ax_result, mode]; rfl) _))
  · exact runs_settled (ok.trans (runs_controlledStop ok.shaped (by rw [ax_result, mode]; rfl) _))
  · exact runs_settled (ok.trans (runs_controlledStop ok.shaped (by rw [ax_result, mode]; rfl) _))
  · refine runs_settled (ok.trans ?_)
    have shapes := ok.shaped
    obtain ⟨m, ready, -⟩ := readies_of_gated (hs s.axsel) mode
    have current : (((s.result .ok).withdraw s.axsel).ax s.axsel).current = some m := by
      rw [ax_withdraw, ax_result]; exact ready.current
    have axis := ax_endMove_ended current (.aborted .gated) 0
    rw [ax_withdraw, ax_result] at axis
    refine runs_withdrawn shapes mode (.endMove current _ _) ?_ ?_ ?_ ?_ <;> rw [axis]
    · exact ready.ends.shaped (.inl ready.cause)
    · exact ready.ends.goes _
    · exact ready.ends.moves_ended _
    · simp [AxisState.ended]
  · obtain ⟨m, ends, cause, -⟩ := ends_of_dwelling (hs s.axsel) mode
    exact runs_settled (ok.trans (runs_endMove (.refl (s.result .ok) _) (fun b _ => ok.shaped b)
      (by rw [ax_result, mode]; simp) ends (.inl cause) _))
  all_goals exact runs_result hs _

/-- A change that touches neither the axes nor the shared tables. -/
theorem Local.of_eq (a : Axis) (axes : t.axes = s.axes) (reports : t.reports = s.reports) (pool : t.poolFree = s.poolFree)
    (profiles : t.profiles = s.profiles) (gates : t.gates = s.gates) : s.Local a [] t :=
  ⟨fun b _ => by simp only [State.ax, axes], reports, pool, fun p => by simp only [State.prof, profiles]; rfl,
    fun g => by simp only [State.gate, gates]; rfl⟩

theorem Local.foldRelease (s : State) (a : Axis) (l : List Move) : s.Local a l (l.foldl State.release s) := by
  induction l generalizing s with
  | nil => exact .refl s a
  | cons m l ih => exact (Local.release s a m).trans (ih _)

/-- An axis that gives up its queue and its held move. -/
theorem shaped_emptied {x : AxisState} (h : x.shaped = true) :
    ({ x with queue := [], held := none } : AxisState).shaped = true := by
  simp only [AxisState.shaped, Bool.and_eq_true] at h ⊢
  obtain ⟨⟨⟨⟨⟨items, step⟩, intent⟩, owed⟩, enable⟩, cause⟩ := h
  refine ⟨⟨⟨⟨⟨?_, step⟩, intent⟩, owed⟩, enable⟩, cause⟩
  cases offer : x.offer <;> split at items <;> simp_all; tauto

theorem goes_emptied (table : ProfileNo → Profile) (x : AxisState) :
    x.Goes table { x with queue := [], held := none } where
  legal := AxisState.Goes.configLegal_of_queue (Nat.zero_le _) rfl
  range h := ⟨h.limits, h.position, fun m hm => h.legal m (by simp_all [AxisState.moves]), h.gated, h.rest⟩
  planned := id
  enabled := Iff.rfl

theorem runs_applyFlush (hs : ∀ b, (s.ax b).shaped = true) : s.Runs s.applyFlush := by
  by_cases disabled : (s.ax s.axsel).mode = .disabled
  · rw [applyFlush_of_disabled disabled]
    exact runs_result hs _
  · rw [applyFlush_of_enabled disabled]
    have axis : s.flushed.ax s.axsel = { s.ax s.axsel with queue := [], held := none } := ax_setAx_self s s.axsel _
    have gives : s.Local s.axsel (s.ax s.axsel).waitingMoves s.flushed :=
      ⟨fun b hb => ax_setAx_of_ne s hb _, rfl, rfl, prof_foldl_release s _, gate_foldl_release s _⟩
    refine .of_local gives (fun b _ => hs b) ?_ ?_ ?_ fun g => ?_ <;> rw [axis]
    · exact shaped_emptied (hs _)
    · exact goes_emptied _ _
    · refine .trans ?_ ((List.perm_append_comm (l₁ := (s.ax s.axsel).current.toList)).append_right _)
      simp [AxisState.moves, AxisState.waitingMoves]
    · rfl

/-- An axis that is neither moving nor waiting gets a position and soft limits in the position range. -/
theorem runs_placed (hs : ∀ b, (s.ax b).shaped = true) (free : (s.ax a).mode.busy = false) (position low high : Int)
    (range : (s.ax a).Range → (Config.minPosition ≤ low ∧ low ≤ high ∧ high ≤ Config.maxPosition) ∧
      Config.minPosition ≤ position ∧ position ≤ Config.maxPosition) :
    s.Runs (s.modAx a fun x => { x with position := position, limitMin := low, limitMax := high }) := by
  refine .of_local (.modAx s a _) (fun b _ => hs b) ?_ ?_ ?_ fun g => ?_ <;> rw [ax_modAx_self]
  · exact hs a
  · refine ⟨id, fun h => ⟨(range h).1, (range h).2, h.legal, fun gated => ?_, fun moving => ?_⟩, id, Iff.rfl⟩
    · rw [show (s.ax a).mode = .gated from gated] at free; cases free
    · have moving : (s.ax a).mode.running = true ∨ (s.ax a).mode = .stopping := moving
      rw [running_iff] at moving
      rcases moving with (mode | mode | mode) | mode <;> rw [mode] at free <;> cases free
  · simp [AxisState.moves]
  · rfl

theorem signed24_in_range (b₀ b₁ b₂ : Byte) :
    Config.minPosition ≤ signed24 b₀ b₁ b₂ ∧ signed24 b₀ b₁ b₂ ≤ Config.maxPosition := by
  have low := BitVec.le_toInt (b₂ ++ b₁ ++ b₀ : Word24)
  have high := BitVec.toInt_lt (x := (b₂ ++ b₁ ++ b₀ : Word24))
  simp only [signed24, Config.minPosition, Config.maxPosition] at *
  omega

theorem runs_applySetpos (hs : ∀ b, (s.ax b).shaped = true) : s.Runs s.applySetpos := by
  rw [applySetpos_eq]
  split
  · exact runs_result hs _
  next free =>
  split
  · exact runs_result hs _
  · have sets := runs_placed (a := s.axsel) hs (by simpa using free) s.blockPosition (s.ax s.axsel).limitMin
      (s.ax s.axsel).limitMax fun h => ⟨h.limits, signed24_in_range _ _ _⟩
    exact sets.trans (runs_result sets.shaped _)

theorem runs_applyLimits (hs : ∀ b, (s.ax b).shaped = true) : s.Runs s.applyLimits := by
  rw [applyLimits_eq]
  split
  · exact runs_result hs _
  next free =>
  split
  · exact runs_result hs _
  next ordered =>
  have sets := runs_placed (a := s.axsel) hs (by simpa using free) (s.ax s.axsel).position s.blockLimitMin
    s.blockLimitMax fun h =>
      ⟨⟨(signed24_in_range _ _ _).1, Int.not_lt.1 ordered, (signed24_in_range _ _ _).2⟩, h.position⟩
  exact sets.trans (runs_result sets.shaped _)

theorem runs_applyResume (hs : ∀ b, (s.ax b).shaped = true) : s.Runs s.applyResume := by
  by_cases halted : (s.ax s.axsel).mode = .halted
  case neg => rw [applyResume_of_not_halted halted]; exact runs_result hs _
  cases stop : s.stop.qualified with
  | low => rw [applyResume_of_stop_low halted stop]; exact runs_result hs _
  | high =>
    by_cases drive : (s.ax s.axsel).cause = .drive ∧ (s.ax s.axsel).drive.flt.qualified = .low
    · rw [applyResume_of_drive_active halted stop drive]; exact runs_result hs _
    have shape := AxisState.shape (hs s.axsel)
    obtain ⟨current, enable, intent, step⟩ := facts_of_rest (hs s.axsel) (by simp [halted])
    have owed := shape.owed (by simp [halted])
    have offer := (shape.halted halted).2
    have resumes : s.Local s.axsel [] s.resumed :=
      (Local.modAx s s.axsel AxisState.resumed).trans (.of_eq _ rfl rfl rfl rfl rfl)
    have others (b : Axis) (e : b ≠ s.axsel) : (s.resumed.ax b).shaped = true := by rw [resumes.others b e]; exact hs b
    have not_gated : (s.ax s.axsel).mode ≠ .gated := by simp [halted]
    cases held : (s.ax s.axsel).held with
    | some m =>
      rw [applyResume_of_held halted stop drive held]
      refine runs_settled (runs_take resumes (fun b _ => hs b) not_gated ?_)
      rw [ax_resumed]
      exact ⟨by simp [halted], rfl, rfl, offer, owed, rfl, intent, step, enable,
        by simp [AxisState.moves, AxisState.taking, AxisState.resumed, held, current], le_rfl, rfl, ⟨rfl, rfl⟩, rfl⟩
    | none =>
      rw [applyResume_of_no_held halted stop drive held]
      have same : s.resumed.ax s.axsel = { s.ax s.axsel with cause := .none } := by
        rw [ax_resumed, AxisState.resumed_of_no_held held]
      have between : (s.resumed.ax s.axsel).Between := by
        rw [same]
        exact ⟨by simp [halted], current, held, offer, owed, rfl, intent, step, enable⟩
      refine runs_settled (.after (goes_rest resumes (by simp [halted]) ?_ ?_ ?_ ?_ ?_ ?_)
        (waits_of_local resumes fun g => ?_) (runs_takeNext between others)) <;> rw [same]
      · simp [halted]
      · exact ⟨rfl, rfl⟩
      · exact .refl _
      · rfl

end State
end Sys2Proof.Machine
end

section
/-! SUPPORT. The commands that keep every invariant of the axes, the pool and the gates from any state whose axes have their
shapes. -/

namespace Sys2Proof.Machine

/-- The commands that neither write the setup, take in a move nor reset the part. -/
def ordinary : Instr → Bool
  | .post | .axconfig | .profile | .gateset | .gateclear | .softreset | .hardwareReset => false
  | _ => true

namespace State

variable {s t u : State} {a : Axis} {m : Move} {gone : List Move}

/-! ## Commands to shared blocks -/

theorem runs_write (hs : ∀ b, (s.ax b).shaped = true) (block : Vector Byte 16) (r : Result) :
    s.Runs ({ s with block := block }.result r) := SameCore.runs (.of_eq rfl rfl rfl rfl) hs

/-- PROFILE answers with a refusal alone, or loads a legal record that no move names (R34). -/
theorem applyProfile_cases (s : State) :
    (∃ r, s.applyProfile = s.result r) ∨
    ∃ p, s.blockProfileLegal = true ∧ (s.prof p).useCount = 0 ∧ s.applyProfile = (s.modProf p s.blockProfile).result .ok := by
  cases hp : profileOfByte s.block[0] with
  | none => exact .inl ⟨_, applyProfile_of_no_entry hp⟩
  | some p =>
    cases legal : s.blockProfileLegal with
    | false => exact .inl ⟨_, applyProfile_of_illegal legal⟩
    | true =>
      by_cases unused : (s.prof p).useCount = 0
      · exact .inr ⟨p, rfl, unused, applyProfile_of_unused hp legal unused⟩
      · exact .inl ⟨_, applyProfile_of_in_use hp legal unused⟩

/-- GATESET answers with a refusal alone, or sets up a gate that no move names (R70). -/
theorem applyGateset_cases (s : State) :
    (∃ r, s.applyGateset = s.result r) ∨
    ∃ g, (s.gate g).useCount = 0 ∧ s.applyGateset = (s.modGate g s.blockGate).result .ok := by
  cases hg : gateOfTag s.block[0] with
  | none => exact .inl ⟨_, applyGateset_of_no_gate hg⟩
  | some g =>
    by_cases bad : s.blockMembersBad
    · exact .inl ⟨_, applyGateset_of_bad_members hg bad⟩
    rw [applyGateset_of_members hg bad]
    split
    · exact .inl ⟨_, rfl⟩
    · next unused => exact .inr ⟨g, not_not.1 unused, rfl⟩

/-- GATECLEAR answers with a refusal alone, or clears a gate that no move names (R71). -/
theorem applyGateclear_cases (s : State) :
    (∃ r, s.applyGateclear = s.result r) ∨
    ∃ g, (s.gate g).useCount = 0 ∧ s.applyGateclear = (s.modGate g Gate.cleared).result .ok := by
  cases hg : gateOfTag s.block[0] with
  | none => exact .inl ⟨_, applyGateclear_of_no_gate hg⟩
  | some g =>
    rw [applyGateclear_of_gate hg]
    split
    · exact .inl ⟨_, rfl⟩
    · next unused => exact .inr ⟨g, not_not.1 unused, rfl⟩

/-- PROFQUERY is refused, or writes its answer in the parameter block (R33). -/
theorem applyProfquery_cases (s : State) :
    (∃ r, r ≠ .ok ∧ s.applyProfquery = s.result r) ∨
    ∃ block, s.applyProfquery = { s with block := block }.result .ok := by
  unfold State.applyProfquery
  split
  · exact .inl ⟨_, by simp, rfl⟩
  · exact .inr ⟨_, rfl⟩

/-- GATEQUERY is refused, or writes its answer in the parameter block (R72). -/
theorem applyGatequery_cases (s : State) :
    (∃ r, r ≠ .ok ∧ s.applyGatequery = s.result r) ∨
    ∃ block, s.applyGatequery = { s with block := block }.result .ok := by
  unfold State.applyGatequery
  split
  · exact .inl ⟨_, by simp, rfl⟩
  · exact .inr ⟨_, rfl⟩

theorem runs_applyProfquery (hs : ∀ b, (s.ax b).shaped = true) : s.Runs s.applyProfquery := by
  obtain ⟨r, -, e⟩ | ⟨block, e⟩ := applyProfquery_cases s <;> rw [e]
  · exact runs_result hs r
  · exact runs_write hs block _

theorem runs_applyGatequery (hs : ∀ b, (s.ax b).shaped = true) : s.Runs s.applyGatequery := by
  obtain ⟨r, -, e⟩ | ⟨block, e⟩ := applyGatequery_cases s <;> rw [e]
  · exact runs_result hs r
  · exact runs_write hs block _

theorem runs_applyPop (hs : ∀ b, (s.ax b).shaped = true) : s.Runs s.applyPop := by
  unfold State.applyPop
  split
  · exact runs_result hs _
  · exact runs_settled (SameCore.runs (.of_eq rfl rfl rfl rfl) hs)

theorem runs_applyHaltall (hs : ∀ b, (s.ax b).shaped = true) : s.Runs s.applyHaltall :=
  runs_settled ((runs_result hs .ok).trans (runs_stopAll (runs_result hs .ok).shaped .command))

/-- A write to the window reaches the four locations that can be written, and no more. -/
theorem writeLocation_eq (s : State) (offset : Offset) (value : Byte) :
    s.writeLocation offset value =
      { s with
        ienable := (s.writeLocation offset value).ienable, axsel := (s.writeLocation offset value).axsel
        style := (s.writeLocation offset value).style, block := (s.writeLocation offset value).block } := by
  unfold State.writeLocation
  split
  · rfl
  split
  · rfl
  split
  · rfl
  split <;> rfl

theorem runs_writeLocation (hs : ∀ b, (s.ax b).shaped = true) (offset : Offset) (value : Byte) :
    s.Runs (s.writeLocation offset value) := by
  rw [writeLocation_eq]
  exact SameCore.runs (.of_eq rfl rfl rfl rfl) hs

theorem SameCore.releaseReset (s : State) : s.SameCore s.releaseReset :=
  ⟨fun a => by rw [ax_releaseReset]; rfl, rfl, fun _ => rfl, fun _ => .refl _⟩

/-! ## Every ordinary command -/

/-- A command or an event under a condition keeps the invariants if its effect does. -/
theorem runs_if (hs : ∀ b, (s.ax b).shaped = true) {c : Prop} [Decidable c] (h : c → s.Runs t) :
    s.Runs (if c then t else s) := by
  split
  · next holds => exact h holds
  · exact .refl hs

theorem runs_operating (hs : ∀ b, (s.ax b).shaped = true) {f : State → State} (h : s.Runs (f s)) : s.Runs (s.operating f) := by
  unfold State.operating
  split
  · exact .refl hs
  · exact h

theorem runs_exec {c : Instr} (hs : ∀ b, (s.ax b).shaped = true) (ord : ordinary c = true)
    (h : exec c s = .next t) : s.Runs t := by
  cases c with
  | post | axconfig | profile | gateset | gateclear | softreset | hardwareReset => cases ord
  | abort => cases h; exact runs_operating hs (runs_applyAbort hs)
  | flush => cases h; exact runs_operating hs (runs_applyFlush hs)
  | resume => cases h; exact runs_operating hs (runs_applyResume hs)
  | setpos => cases h; exact runs_operating hs (runs_applySetpos hs)
  | limits => cases h; exact runs_operating hs (runs_applyLimits hs)
  | axquery => cases h; exact runs_operating hs (runs_write hs _ _)
  | profquery => cases h; exact runs_operating hs (runs_applyProfquery hs)
  | gatequery => cases h; exact runs_operating hs (runs_applyGatequery hs)
  | pop => cases h; exact runs_operating hs (runs_applyPop hs)
  | haltall => cases h; exact runs_operating hs (runs_applyHaltall hs)
  | badCommand code =>
    simp only [exec, execBadCommand] at h
    split at h
    · cases h
    · cases h; exact runs_operating hs (runs_result hs _)
  | axpos0Read => cases h; split <;> exact SameCore.runs (.of_eq rfl rfl rfl rfl) hs
  | rdataRead => cases h; split <;> exact SameCore.runs (.of_eq rfl rfl rfl rfl) hs
  | iflagWrite value => cases h; exact runs_operating hs (SameCore.runs (.of_eq rfl rfl rfl rfl) hs)
  | windowWrite offset value =>
    simp only [exec, execWindowWrite] at h
    split at h
    · cases h
    · cases h; exact runs_operating hs (runs_writeLocation hs _ _)
  | resetRelease => cases h; exact runs_if hs fun _ => (SameCore.releaseReset s).runs hs
  | stepPulse a =>
    cases h
    refine runs_operating hs (runs_if hs fun step => runs_settled (runs_pulse hs ?_))
    rw [(AxisState.shape (hs a)).step] at step
    simpa using step
  | stepHighTimeEnd a => cases h; exact runs_operating hs (runs_if hs fun _ => SameCore.runs (.modAx s a _ rfl) hs)
  | readbackSample a step dir => cases h; exact runs_operating hs (runs_takeSample hs a step dir)
  | dwellExpiry a =>
    cases h
    refine runs_operating hs (runs_if hs fun mode => runs_settled ?_)
    obtain ⟨m, ends, cause, -⟩ := ends_of_dwelling (hs a) mode
    exact runs_endMove (.refl s a) (fun b _ => hs b) (by simp [mode]) ends (.inl cause) _
  | gateTimerExpiry g => cases h; exact runs_operating hs (runs_if hs fun _ => runs_settled (runs_expireGate hs g))
  | gateFire g => cases h; exact runs_operating hs (runs_if hs fun _ => runs_settled (runs_fireGate hs g))
  | placeGranted => cases h; exact runs_operating hs (runs_settle hs)
  | sensPinChange a level =>
    cases h
    split
    · exact SameCore.runs (.modAx s a _ rfl) hs
    · exact runs_sensPin hs a level
  | leadingEdge a => cases h; exact runs_operating hs (runs_if hs fun _ => runs_takeSens hs a)
  | trailingEdge a => cases h; exact runs_operating hs (runs_if hs fun _ => runs_takeSens hs a)
  | fltPinChange a level =>
    cases h
    split
    · exact SameCore.runs (.modAx s a _ rfl) hs
    · exact runs_fltPin hs a level
  | fltAssertion a => cases h; exact runs_operating hs (runs_if hs fun _ => runs_takeFlt hs a)
  | fltDeassertion a => cases h; exact runs_operating hs (runs_if hs fun _ => runs_takeFlt hs a)
  | stopPinChange level =>
    cases h
    split
    · exact SameCore.runs (.of_eq rfl rfl rfl rfl) hs
    · exact runs_stopPin hs level
  | stopAssertion => cases h; exact runs_operating hs (runs_if hs fun _ => runs_takeStop hs)
  | stopDeassertion => cases h; exact runs_operating hs (runs_if hs fun _ => runs_takeStop hs)

end State
end Sys2Proof.Machine
end

section
/-! SUPPORT. What every command does to the invariants: the commands that write the setup, take in a move or reset the part, each
on its own, and the statements about every step. -/

namespace Sys2Proof.Machine

/-! ## What a command keeps -/

/-- The invariants of the pool, the use counts, the positions, the ramps and the gates, from one state to another. -/
structure State.Keeps (s t : State) : Prop where
  pool : s.PoolLaw → t.PoolLaw
  configs : s.ConfigsLegal → t.ConfigsLegal
  uses : s.UseCounts → t.UseCounts
  range : s.InRange → t.InRange
  ramps : s.UseCounts → s.RampsPlanned → t.RampsPlanned
  exact : s.ArrivalsExact → t.ArrivalsExact
  listed : s.UseCounts → s.MembersListed → t.MembersListed
  timers : s.UseCounts → s.ArrivalsExact → s.TimersGuarded → t.TimersGuarded

namespace State

variable {s t u : State} {a : Axis} {m : Move}

theorem Keeps.refl (s : State) : s.Keeps s := ⟨id, id, id, id, fun _ => id, id, fun _ => id, fun _ _ => id⟩

theorem Keeps.trans (h : s.Keeps t) (k : t.Keeps u) : s.Keeps u where
  pool := k.pool ∘ h.pool
  configs := k.configs ∘ h.configs
  uses := k.uses ∘ h.uses
  range := k.range ∘ h.range
  ramps uses := k.ramps (h.uses uses) ∘ h.ramps uses
  exact := k.exact ∘ h.exact
  listed uses := k.listed (h.uses uses) ∘ h.listed uses
  timers uses exact := k.timers (h.uses uses) (h.exact exact) ∘ h.timers uses exact

theorem Frees.poolLaw {gone : List Move} (h : s.Frees gone t) (law : s.PoolLaw) : t.PoolLaw := by
  have moves := h.moves.length_eq
  rw [List.length_append] at moves
  show t.poolFree + t.moves.length = _
  rw [h.pool, ← law]
  omega

theorem Frees.useCounts {gone : List Move} (h : s.Frees gone t) (uses : s.UseCounts) : t.UseCounts := by
  have counts (p : Move → Bool) : t.moves.countP p + gone.countP p = s.moves.countP p := by
    rw [← List.countP_append]; exact h.moves.countP_eq p
  refine ⟨fun p => ?_, fun g => ?_⟩
  · rw [h.prof, uses.1, ← counts]; omega
  · rw [h.gate, uses.2, ← counts]; omega

/-- What an exact arrival set is, for every gate and axis. -/
theorem arrivalsExact_iff : s.ArrivalsExact ↔ ∀ a, s.WaitsExact a :=
  ⟨fun h a g => h g a (Axis.mem_all a), fun h g a _ => h a g⟩

theorem Goes.configsLegal (h : s.Goes t) (legal : s.ConfigsLegal) : t.ConfigsLegal :=
  fun a ha => (h.axes a).legal (legal a ha)

theorem Goes.inRange (h : s.Goes t) (range : s.InRange) : t.InRange :=
  fun a ha => AxisState.inRange_iff.2 ((h.axes a).range (AxisState.inRange_iff.1 (range a ha)))

theorem Goes.rampsPlanned (h : s.Goes t) (planned : s.RampsPlanned) : t.RampsPlanned := fun a ha => by
  rw [rampPlanned_eq, h.table]
  exact (h.axes a).planned (planned a ha)

theorem Goes.membersListed (h : s.Goes t) (listed : s.MembersListed) : t.MembersListed := fun g a ha named => by
  obtain ⟨gone, frees⟩ := h.frees
  rw [h.members]
  obtain ⟨m, there, gate⟩ := List.any_eq_true.1 named
  exact listed g a ha (List.any_eq_true.2 ⟨m, frees.kept a there, gate⟩)

theorem Runs.keeps (h : s.Runs t) : s.Keeps t := by
  obtain ⟨gone, frees⟩ := h.frees
  exact
    { pool := frees.poolLaw, configs := h.configsLegal, uses := frees.useCounts, range := h.inRange
      ramps := fun _ => h.rampsPlanned
      exact := fun k => arrivalsExact_iff.2 fun a => h.waits a (arrivalsExact_iff.1 k a)
      listed := fun _ => h.membersListed, timers := fun _ _ k g => h.timers g (k g) }

theorem SameCore.keeps (h : s.SameCore t) : s.Keeps t := by
  obtain ⟨gone, frees⟩ := h.goes.frees
  exact
    { pool := frees.poolLaw, configs := h.goes.configsLegal, uses := frees.useCounts, range := h.goes.inRange
      ramps := fun _ => h.goes.rampsPlanned
      exact := fun k => arrivalsExact_iff.2 fun a g => by
        rw [(h.gate g).arrivals, waitsAt_of_core (h.axes a)]; exact arrivalsExact_iff.1 k a g
      listed := fun _ => h.goes.membersListed, timers := fun _ _ k g => h.goes.timers g (k g) }

/-- No move carries the tag of a gate whose use count is 0. -/
theorem not_named_of_unused_gate {g : GateTag} (uses : s.UseCounts) (unused : (s.gate g).useCount = 0)
    (there : m ∈ s.moves) : m.gate ≠ some g := by
  have none := (uses.2 g).symm.trans unused
  rw [List.countP_eq_zero] at none
  simpa using none m there

theorem not_named_of_unused_profile {p : ProfileNo} (uses : s.UseCounts) (unused : (s.prof p).useCount = 0)
    (there : m ∈ s.moves) : m.task.profile? ≠ some p := by
  have none := (uses.1 p).symm.trans unused
  rw [List.countP_eq_zero] at none
  simpa using none m there

theorem mem_moves_of_axis (there : m ∈ (s.ax a).moves) : m ∈ s.moves := by
  unfold State.moves
  cases a <;> simp only [List.mem_append] <;> tauto

theorem mem_moves_of_current (current : (s.ax a).current = some m) : m ∈ s.moves :=
  mem_moves_of_axis (a := a) (by simp [AxisState.moves, current])

/-! ## POST (R10, R11) -/

/-- The part with a move in a slot and at the tail of its axis's queue. -/
def posted (s : State) (m : Move) : State :=
  ((s.allocate m).modAx s.axsel fun x => { x with queue := x.queue ++ [m] }).result .ok

theorem ax_posted (s : State) (m : Move) (b : Axis) :
    (s.posted m).ax b = if b = s.axsel then { s.ax b with queue := (s.ax b).queue ++ [m] } else s.ax b := by
  rw [posted, ax_result, ax_modAx]
  split
  · next e => rw [ax_allocate, e]
  · rw [ax_allocate]

theorem acceptMove_eq (s : State) (m : Move) :
    s.acceptMove m =
      if (s.ax s.axsel).mode = .idle then ((s.posted m).takeNext s.axsel).settle else s.posted m := rfl

theorem prof_posted (s : State) (m : Move) (p : ProfileNo) :
    (s.posted m).prof p =
      if m.task.profile? = some p then { s.prof p with useCount := (s.prof p).useCount + 1 } else s.prof p :=
  (rfl : (s.posted m).prof p = (s.allocate m).prof p).trans (prof_allocate s m p)

theorem gate_posted (s : State) (m : Move) (g : GateTag) :
    (s.posted m).gate g =
      if m.gate = some g then { s.gate g with useCount := (s.gate g).useCount + 1 } else s.gate g :=
  (rfl : (s.posted m).gate g = (s.allocate m).gate g).trans (gate_allocate s m g)

theorem moves_posted (s : State) (m : Move) : (s.posted m).moves.Perm (m :: s.moves) := by
  rw [List.perm_iff_count]
  intro n
  rw [List.count_cons]
  unfold State.moves
  simp only [ax_posted]
  cases s.axsel <;> simp only [AxisState.moves, List.count_append, List.count_cons, List.count_nil, reduceCtorEq, if_true, if_false] <;> omega

/-- A well-formed record holds a legal move (R2, R8). -/
theorem legal_of_moveOfBlock {b : Vector Byte 16} (h : moveOfBlock b = some m) : m.task.legal = true := by
  have value : Config.minPosition ≤ moveValue b ∧ moveValue b ≤ Config.maxPosition := signed24_in_range b[2] b[3] b[4]
  have task : moveTask b = some m.task := by
    unfold moveOfBlock at h
    split at h
    · next task _ => cases h; exact task
    · cases h
  unfold moveTask at task
  split at task
  · split at task
    · rw [← Option.some.inj task]
      split <;> simpa [Task.legal] using value
    · cases task
  split at task
  · split at task
    · split at task
      · cases task
      · next zero =>
        rw [← Option.some.inj task]
        simp only [not_or] at zero
        simpa [Task.legal, zero.2.2] using value
    · cases task
  split at task
  · split at task
    · cases task
    · next bounds =>
      rw [← Option.some.inj task]
      simp only [not_or] at bounds
      simp only [Task.legal, Bool.and_eq_true, decide_eq_true_eq]
      omega
  · cases task

/-- What the checks of POST have found of a move (Table 1-2). -/
structure Admits (s : State) (m : Move) : Prop where
  enabled : (s.ax s.axsel).mode ≠ .disabled
  legal : m.task.legal = true
  member : ∀ g, m.gate = some g → inSet (s.gate g).members s.axsel = true
  quota : (s.ax s.axsel).queue.length < (s.ax s.axsel).config.quota
  pool : s.poolFree ≠ 0

theorem admits_of_postRefusal (enabled : (s.ax s.axsel).mode ≠ .disabled) (hm : moveOfBlock s.block = some m)
    (passes : s.postRefusal m = none) : s.Admits m := by
  have member (g : GateTag) (gate : m.gate = some g) : inSet (s.gate g).members s.axsel = true := by
    by_contra foreign
    by_cases unset : (s.gate g).members = 0
    · rw [postRefusal_of_gate_unset gate unset] at passes; cases passes
    · rw [postRefusal_of_not_member gate unset (by simpa using foreign)] at passes; cases passes
  rw [postRefusal_of_gate_passes member] at passes
  split at passes
  · cases passes
  next quota =>
  split at passes
  · cases passes
  next pool => exact ⟨enabled, legal_of_moveOfBlock hm, member, Nat.lt_of_not_le quota, pool⟩

/-- POST answers with a result alone, or accepts a move that has passed its checks. -/
theorem applyPost_cases (s : State) :
    (∃ r, s.applyPost = s.result r) ∨ ∃ m, s.Admits m ∧ s.applyPost = s.acceptMove m := by
  by_cases enabled : (s.ax s.axsel).mode = .disabled
  · exact .inl ⟨_, applyPost_of_disabled enabled⟩
  cases hm : moveOfBlock s.block with
  | none => exact .inl ⟨_, applyPost_of_malformed enabled hm⟩
  | some m =>
    cases h : s.postRefusal m with
    | some r => exact .inl ⟨r, applyPost_of_postRefusal enabled hm h⟩
    | none =>
      refine .inr ⟨m, admits_of_postRefusal enabled hm h, ?_⟩
      rw [State.applyPost, if_neg enabled, hm]
      simp only [h]

theorem goes_queued {table : ProfileNo → Profile} {x : AxisState} (quota : x.queue.length < x.config.quota)
    (legal : m.task.legal = true) : x.Goes table { x with queue := x.queue ++ [m] } where
  legal h := by
    simp only [AxisState.configLegal, Bool.and_eq_true, decide_eq_true_eq, List.length_append, List.length_singleton] at h ⊢
    exact ⟨h.1, quota⟩
  range h :=
    { limits := h.limits, position := h.position, gated := h.gated, rest := h.rest
      legal := fun n hn => by
        simp only [AxisState.moves, List.mem_append, List.mem_singleton] at hn
        by_cases e : n = m
        · exact e ▸ legal
        · exact h.legal n (by simp only [AxisState.moves, List.mem_append]; tauto) }
  planned := id
  enabled := Iff.rfl

theorem keeps_posted (admits : s.Admits m) : s.Keeps (s.posted m) := by
  have axis (b : Axis) : (s.ax b).Goes s.table ((s.posted m).ax b) := by
    rw [ax_posted]
    split
    · next e => subst e; exact goes_queued admits.quota admits.legal
    · exact .refl _
  have table : (s.posted m).table = s.table := by
    funext p
    rw [State.table, prof_posted]
    split <;> rfl
  refine ⟨fun law => ?_, fun h a ha => (axis a).legal (h a ha), fun uses => ⟨fun p => ?_, fun g => ?_⟩,
    fun h a ha => AxisState.inRange_iff.2 ((axis a).range (AxisState.inRange_iff.1 (h a ha))), fun _ h a ha => ?_,
    fun h g a ha => ?_, fun _ h g a ha named => ?_, fun _ _ h g => ?_⟩
  · have moves := (moves_posted s m).length_eq
    have pool : (s.posted m).poolFree = s.poolFree - 1 := allocate_poolFree s m
    have := admits.pool
    show (s.posted m).poolFree + (s.posted m).moves.length = _
    rw [pool, moves, List.length_cons, ← law]
    omega
  · rw [prof_posted, (moves_posted s m).countP_eq, List.countP_cons, ← uses.1]
    split <;> simp_all
  · rw [gate_posted, (moves_posted s m).countP_eq, List.countP_cons, ← uses.2]
    split <;> simp_all
  · rw [rampPlanned_eq, table]; exact (axis a).planned (h a ha)
  · rw [gate_posted, ax_posted, apply_ite Gate.arrivals, ite_self, h g a ha]
    split <;> rfl
  · rw [gate_posted, apply_ite Gate.members, ite_self]
    rw [ax_posted] at named
    split at named
    · next e =>
      subst e
      obtain ⟨n, there, gate⟩ := List.any_eq_true.1 named
      by_cases e : n = m
      · exact admits.member g (by simpa [e] using gate)
      · refine h g s.axsel ha (List.any_eq_true.2 ⟨n, ?_, gate⟩)
        simp only [AxisState.moves, List.mem_append, List.mem_singleton] at there ⊢
        tauto
    · exact h g a ha named
  · rw [gate_posted]
    split <;> exact h g

theorem shaped_queued {x : AxisState} (h : x.shaped = true) (enabled : x.mode ≠ .disabled) (not_idle : x.mode ≠ .idle)
    (queue : List Move) : ({ x with queue := queue } : AxisState).shaped = true := by
  simp only [AxisState.shaped, Bool.and_eq_true] at h ⊢
  obtain ⟨⟨⟨⟨⟨items, step⟩, intent⟩, owed⟩, enable⟩, cause⟩ := h
  refine ⟨⟨⟨⟨⟨?_, step⟩, intent⟩, owed⟩, enable⟩, cause⟩
  split at items <;> simp_all

/-- An accepted move keeps every invariant and every axis's shape. -/
theorem keeps_acceptMove (hs : ∀ b, (s.ax b).shaped = true) (admits : s.Admits m) :
    s.Keeps (s.acceptMove m) ∧ (∀ b, ((s.acceptMove m).ax b).shaped = true) ∧
      ∀ b, ((s.acceptMove m).ax b).mode = .disabled ↔ (s.ax b).mode = .disabled := by
  have keeps := keeps_posted admits
  have enabled (b : Axis) : ((s.posted m).ax b).mode = (s.ax b).mode := by
    rw [ax_posted]; split <;> rfl
  rw [acceptMove_eq]
  split
  · next idle =>
    have shape := AxisState.shape (hs s.axsel)
    obtain ⟨current, enable, intent, step⟩ := facts_of_rest (hs s.axsel) (.inl idle)
    obtain ⟨queue, -, held, offer⟩ := shape.empty (.inr idle)
    have between : ((s.posted m).ax s.axsel).Between := by
      rw [ax_posted, if_pos rfl]
      exact ⟨.inl idle, current, held, offer, shape.owed (by simp [idle]), shape.cause (by simp [idle]) (by simp [idle]),
        intent, step, enable⟩
    have others (b : Axis) (e : b ≠ s.axsel) : ((s.posted m).ax b).shaped = true := by
      rw [ax_posted, if_neg e]; exact hs b
    have runs := runs_settled (runs_takeNext between others)
    exact ⟨keeps.trans runs.keeps, runs.shaped, fun b => (runs.axes b).enabled.trans (by rw [enabled])⟩
  · next not_idle =>
    refine ⟨keeps, fun b => ?_, fun b => by rw [enabled]⟩
    rw [ax_posted]
    split
    · next e => subst e; exact shaped_queued (hs _) admits.enabled not_idle _
    · exact hs b

/-! ## AXCONFIG (R62, R63) -/

/-- The part with its selected axis set up anew, before any examination. -/
def configured (s : State) : State := (s.modAx s.axsel (·.configure (configOfBlock s.block))).result .ok

theorem ax_configured (s : State) (b : Axis) :
    s.configured.ax b = if b = s.axsel then (s.ax b).configure (configOfBlock s.block) else s.ax b := by
  rw [configured, ax_result, ax_modAx]
  split
  · next e => rw [e]
  · rfl

/-- AXCONFIG answers with a result alone, or sets up an axis that is neither busy nor HALTED with moves (R62). -/
theorem applyAxconfig_cases (s : State) :
    (∃ r, r ≠ .ok ∧ s.applyAxconfig = s.result r) ∨
    ((s.ax s.axsel).mode.busy = false ∧
      ((s.ax s.axsel).mode = .halted → (s.ax s.axsel).queue = [] ∧ (s.ax s.axsel).held = none) ∧
      (1 ≤ (configOfBlock s.block).quota ∧ (configOfBlock s.block).quota ≤ Config.maxQuota) ∧
      s.applyAxconfig =
        if (s.ax s.axsel).mode = .disabled ∧ (configOfBlock s.block).enable then (s.configured.examine s.axsel).settle
        else s.configured) := by
  unfold State.applyAxconfig
  dsimp only
  split
  · exact .inl ⟨_, by simp, rfl⟩
  next free =>
  split
  · exact .inl ⟨_, by simp, rfl⟩
  next quota =>
  refine .inr ⟨by simp at free; exact free.1, fun halted => ?_, by omega, rfl⟩
  simp only [halted, not_or, true_and, not_not] at free
  simpa using free.2

end State

/-- An axis that AXCONFIG may set up has no move in a slot. -/
structure AxisState.Empty (x : AxisState) : Prop where
  mode : x.mode = .disabled ∨ x.mode = .idle ∨ x.mode = .halted
  moves : x.queue = [] ∧ x.current = none ∧ x.held = none
  offer : x.offer = none
  owed : x.owed = none
  intent : x.intent = none
  step : x.ramp.step = none

theorem AxisState.empty_of_free {x : AxisState} (h : x.shaped = true) (free : x.mode.busy = false)
    (halted : x.mode = .halted → x.queue = [] ∧ x.held = none) : x.Empty := by
  have shape := AxisState.shape h
  have mode : x.mode = .disabled ∨ x.mode = .idle ∨ x.mode = .halted := by
    cases mode : x.mode <;> rw [mode] at free <;> simp_all [Mode.busy]
  have step := shape.step
  have intent := shape.intent
  have owed := shape.owed (by grind)
  refine ⟨mode, ?_, ?_, owed, Option.not_isSome_iff_eq_none.1 ?_, Option.not_isSome_iff_eq_none.1 ?_⟩
  · rcases mode with mode | mode | mode
    · have items := shape.empty (.inl mode); exact ⟨items.1, items.2.1, items.2.2.1⟩
    · have items := shape.empty (.inr mode); exact ⟨items.1, items.2.1, items.2.2.1⟩
    · exact ⟨(halted mode).1, (shape.halted mode).1, (halted mode).2⟩
  · rcases mode with mode | mode | mode
    · exact (shape.empty (.inl mode)).2.2.2
    · exact (shape.empty (.inr mode)).2.2.2
    · exact (shape.halted mode).2
  · rw [intent]; rcases mode with mode | mode | mode <;> rw [mode] <;> decide
  · rw [step]; rcases mode with mode | mode | mode <;> rw [mode] <;> decide

theorem AxisState.mode_configure (x : AxisState) (c : AxisConfig) :
    (x.configure c).mode = if c.enable then (if x.mode = .disabled then .idle else x.mode) else .disabled := rfl

theorem AxisState.Empty.mode_configure {x : AxisState} (h : x.Empty) (c : AxisConfig) :
    (x.configure c).mode = .disabled ∨ (x.configure c).mode = .idle ∨ (x.configure c).mode = .halted := by
  rw [AxisState.mode_configure]
  have := h.mode
  split <;> [split; skip] <;> simp_all

theorem AxisState.Empty.shaped_configure {x : AxisState} (h : x.Empty) (shaped : x.shaped = true) (c : AxisConfig) :
    (x.configure c).shaped = true := by
  obtain ⟨mode, ⟨queue, current, held⟩, offer, owed, intent, step⟩ := h
  have cause := (AxisState.shape shaped).cause
  cases enable : c.enable
  · simp [AxisState.shaped, AxisState.configure, enable, queue, current, held, offer, owed, intent, step, Mode.running]
  · rcases mode with mode | mode | mode <;>
      simp [AxisState.shaped, AxisState.configure, enable, mode, queue, current, held, offer, owed, intent, step,
        Mode.running] <;> simp_all

theorem AxisState.Empty.goes_configure {table : ProfileNo → Profile} {x : AxisState} (h : x.Empty) (b : Vector Byte 16)
    (quota : 1 ≤ (configOfBlock b).quota ∧ (configOfBlock b).quota ≤ Config.maxQuota) :
    (x.configLegal = true → (x.configure (configOfBlock b)).configLegal = true) ∧
    (x.Range → (x.configure (configOfBlock b)).Range) ∧ (x.configure (configOfBlock b)).planned table = true := by
  have mode := h.mode_configure (configOfBlock b)
  have not_moving : ¬((x.configure (configOfBlock b)).mode.running = true ∨ (x.configure (configOfBlock b)).mode = .stopping) := by
    rw [running_iff]; grind
  refine ⟨fun _ => ?_, fun range => ⟨range.limits, range.position, range.legal, fun gated => by grind, fun moving => ?_⟩,
    AxisState.planned_iff.2 fun moving => absurd moving not_moving⟩
  · have filter : (configOfBlock b).filter ≤ 255 := Nat.le_of_lt_succ b[3].isLt
    simp [AxisState.configLegal, AxisState.configure, h.moves.1, quota.1, quota.2, filter]
  · exact absurd moving not_moving

namespace State

variable {s t u : State} {a : Axis} {m : Move}

/-- A change of the axes alone that keeps their moves and leaves none of them at a gate it was not at. -/
theorem keeps_of_axes (pool : t.poolFree = s.poolFree) (profs : ∀ p, t.prof p = s.prof p) (gates : ∀ g, t.gate g = s.gate g)
    (moves : ∀ b, (t.ax b).moves = (s.ax b).moves) (legal : ∀ b, (s.ax b).configLegal = true → (t.ax b).configLegal = true)
    (range : ∀ b, (s.ax b).Range → (t.ax b).Range)
    (planned : ∀ b, (s.ax b).planned s.table = true → (t.ax b).planned s.table = true)
    (waits : ∀ b g, (t.ax b).waitsAt g = (s.ax b).waitsAt g) : s.Keeps t := by
  have all : t.moves = s.moves := by simp only [State.moves, moves]
  have table : t.table = s.table := by funext p; rw [State.table, profs]; rfl
  exact
    { pool := fun law => by rw [State.PoolLaw, all, pool]; exact law
      configs := fun h a ha => legal a (h a ha)
      uses := fun uses => by simp only [State.UseCounts, all, profs, gates]; exact uses
      range := fun h a ha => AxisState.inRange_iff.2 (range a (AxisState.inRange_iff.1 (h a ha)))
      ramps := fun _ h a ha => by rw [rampPlanned_eq, table]; exact planned a (h a ha)
      exact := fun h g a ha => by rw [gates, h g a ha]; exact (waits a g).symm
      listed := fun _ h g a ha => by rw [gates, moves]; exact h g a ha
      timers := fun _ _ h g => by rw [gates]; exact h g }

theorem waitsAt_configured (empty : (s.ax s.axsel).Empty) (b : Axis) (g : GateTag) :
    (s.configured.ax b).waitsAt g = (s.ax b).waitsAt g := by
  rw [ax_configured]
  split
  · next e =>
    subst e
    have mode := empty.mode
    have after := empty.mode_configure (configOfBlock s.block)
    rw [waitsAt_of_not_gated (by grind), waitsAt_of_not_gated (by grind)]
  · rfl

theorem keeps_configured (empty : (s.ax s.axsel).Empty)
    (quota : 1 ≤ (configOfBlock s.block).quota ∧ (configOfBlock s.block).quota ≤ Config.maxQuota) : s.Keeps s.configured := by
  obtain ⟨legal, range, planned⟩ := empty.goes_configure (table := s.table) s.block quota
  refine keeps_of_axes rfl (fun _ => rfl) (fun _ => rfl) (fun b => ?_) (fun b h => ?_) (fun b h => ?_) (fun b h => ?_)
    (waitsAt_configured empty) <;> rw [ax_configured] <;> split
  · rfl
  · rfl
  · next e => subst e; exact legal h
  · exact h
  · next e => subst e; exact range h
  · exact h
  · next e => subst e; exact planned
  · exact h

/-- AXCONFIG keeps every invariant and every axis's shape, and enables or disables its own axis alone. -/
theorem keeps_applyAxconfig (hs : ∀ b, (s.ax b).shaped = true) :
    s.Keeps s.applyAxconfig ∧ (∀ b, (s.applyAxconfig.ax b).shaped = true) ∧
      ∀ b, ((s.applyAxconfig.ax b).mode = .disabled ↔ (s.ax b).mode = .disabled) ∨
        b = s.axsel ∧ ((s.applyAxconfig.ax b).mode = .disabled ↔ (configOfBlock s.block).enable = false) := by
  obtain ⟨r, -, e⟩ | ⟨free, halted, quota, e⟩ := applyAxconfig_cases s <;> rw [e]
  · have runs := runs_result hs r
    exact ⟨runs.keeps, runs.shaped, fun b => .inl (runs.axes b).enabled⟩
  · have empty := AxisState.empty_of_free (hs s.axsel) free halted
    have keeps := keeps_configured empty quota
    have shaped (b : Axis) : (s.configured.ax b).shaped = true := by
      rw [ax_configured]
      split
      · next e => subst e; exact empty.shaped_configure (hs _) _
      · exact hs b
    have enabled (b : Axis) : ((s.configured.ax b).mode = .disabled ↔ (s.ax b).mode = .disabled) ∨
        b = s.axsel ∧ ((s.configured.ax b).mode = .disabled ↔ (configOfBlock s.block).enable = false) := by
      rw [ax_configured]
      split
      · next e =>
        refine .inr ⟨e, ?_⟩
        rw [AxisState.mode_configure]
        split
        · next on => split <;> simp_all
        · next off => simpa using off
      · exact .inl Iff.rfl
    split
    · have runs := runs_settled (runs_examine shaped s.axsel)
      refine ⟨keeps.trans runs.keeps, runs.shaped, fun b => ?_⟩
      rw [(runs.axes b).enabled]
      exact enabled b
    · exact ⟨keeps, shaped, enabled⟩

/-! ## PROFILE, GATESET and GATECLEAR (R34, R70, R71) -/

/-- A write of a profile record that no move names. -/
theorem keeps_modProf {p : ProfileNo} {f : Profile → Profile} (unused : (s.prof p).useCount = 0)
    (use : (f (s.prof p)).useCount = 0) : s.Keeps (s.modProf p f) := by
  have count (q : ProfileNo) : ((s.modProf p f).prof q).useCount = (s.prof q).useCount := by
    rw [prof_modProf]
    split
    · next e => rw [e, use, unused]
    · rfl
  refine ⟨id, id, fun uses => ⟨fun q => by rw [count]; exact uses.1 q, uses.2⟩, id, fun uses h a ha => ?_, id, fun _ => id,
    fun _ _ => id⟩
  have planned := AxisState.planned_iff.1 (h a ha)
  refine AxisState.planned_iff.2 fun moving => ?_
  obtain ⟨names, step, k⟩ := planned moving
  obtain ⟨m, current, profile⟩ := Option.bind_eq_some_iff.1 names
  have other : (s.ax a).ramp.profile ≠ p := fun e =>
    not_named_of_unused_profile uses unused (mem_moves_of_current current) (profile.trans (by rw [e]))
  have same : (s.modProf p f).prof (s.ax a).ramp.profile = s.prof (s.ax a).ramp.profile := by
    rw [prof_modProf, if_neg other]
  show _ ∧ (s.ax a).ramp.step = some (((s.modProf p f).prof (s.ax a).ramp.profile).decide _ _) ∧
    (s.ax a).ramp.k ≤ ((s.modProf p f).prof (s.ax a).ramp.profile).length
  rw [same]
  exact ⟨names, step, k⟩

/-- A set of axes is what it holds. -/
theorem axisSet_ext {x y : AxisSet} (h : ∀ a, inSet x a = inSet y a) : x = y := by
  refine BitVec.eq_of_getLsbD_eq fun i hi => ?_
  have each : i = Axis.A.idx ∨ i = Axis.B.idx ∨ i = Axis.C.idx ∨ i = Axis.D.idx := by
    simp only [Axis.idx]; omega
  rcases each with e | e | e | e <;> rw [e]
  exacts [h .A, h .B, h .C, h .D]

/-- An axis that holds no move of a gate does not wait at it. -/
theorem arrivals_of_unused {g : GateTag} (uses : s.UseCounts) (exact : s.ArrivalsExact) (unused : (s.gate g).useCount = 0) :
    (s.gate g).arrivals = 0 := by
  refine axisSet_ext fun a => ?_
  refine Eq.trans ?_ (inSet_zero a).symm
  rw [exact g a (Axis.mem_all a), Bool.and_eq_false_iff]
  refine .inr ?_
  cases current : (s.ax a).current with
  | none => rfl
  | some m => simpa using not_named_of_unused_gate uses unused (mem_moves_of_current current)

/-- A write of the members and the timeout of a gate that no move names. -/
theorem keeps_modGate {g : GateTag} {f : Gate → Gate} (unused : (s.gate g).useCount = 0)
    (same : (f (s.gate g)).arrivals = (s.gate g).arrivals ∧ (f (s.gate g)).timer = (s.gate g).timer ∧
      (f (s.gate g)).useCount = (s.gate g).useCount)
    (timeout : (f (s.gate g)).timeout ≤ 65535) : s.Keeps (s.modGate g f) := by
  obtain ⟨arrivals, timer, use⟩ := same
  refine ⟨id, id, fun uses => ⟨uses.1, fun k => ?_⟩, id, fun _ => id, fun h k a ha => ?_, fun uses h k a ha named => ?_,
    fun uses exact h k => ?_⟩ <;> rw [gate_modGate] <;> split
  · next e => rw [e, use, ← e]; exact uses.2 k
  · exact uses.2 k
  · next e => rw [e, arrivals, ← e]; exact h k a ha
  · exact h k a ha
  · next e =>
    obtain ⟨m, there, gate⟩ := List.any_eq_true.1 named
    exact absurd (by simpa [e] using gate) (not_named_of_unused_gate uses unused (mem_moves_of_axis there))
  · exact h k a ha named
  · next e =>
    have stopped : (s.gate g).timer = none := by
      by_contra runs
      exact ((h g).2.1 (Option.isSome_iff_ne_none.2 runs)).1 (arrivals_of_unused uses exact unused)
    exact ⟨timeout, fun runs => by simp [timer, stopped] at runs, by rw [timer, stopped]; rfl⟩
  · exact h k

theorem keeps_result (s : State) (r : Result) : s.Keeps (s.result r) := SameCore.keeps (.of_eq rfl rfl rfl rfl)

/-- A setup command keeps every invariant and leaves the axes as they are. -/
theorem keeps_applyProfile (s : State) : s.Keeps s.applyProfile ∧ ∀ b, s.applyProfile.ax b = s.ax b := by
  obtain ⟨r, e⟩ | ⟨p, -, unused, e⟩ := applyProfile_cases s <;> rw [e]
  · exact ⟨keeps_result s r, fun _ => rfl⟩
  · exact ⟨(keeps_modProf unused unused).trans (keeps_result _ _), fun _ => rfl⟩

theorem keeps_applyGateset (s : State) : s.Keeps s.applyGateset ∧ ∀ b, s.applyGateset.ax b = s.ax b := by
  obtain ⟨r, e⟩ | ⟨g, unused, e⟩ := applyGateset_cases s <;> rw [e]
  · exact ⟨keeps_result s r, fun _ => rfl⟩
  · have timeout : (s.blockGate (s.gate g)).timeout ≤ 65535 := by simp only [State.blockGate]; omega
    exact ⟨(keeps_modGate unused ⟨rfl, rfl, rfl⟩ timeout).trans (keeps_result _ _), fun _ => rfl⟩

theorem keeps_applyGateclear (s : State) : s.Keeps s.applyGateclear ∧ ∀ b, s.applyGateclear.ax b = s.ax b := by
  obtain ⟨r, e⟩ | ⟨g, unused, e⟩ := applyGateclear_cases s <;> rw [e]
  · exact ⟨keeps_result s r, fun _ => rfl⟩
  · exact ⟨(keeps_modGate unused ⟨rfl, rfl, rfl⟩ (Nat.zero_le _)).trans (keeps_result _ _), fun _ => rfl⟩

end State
end Sys2Proof.Machine
end

section
/-! SUPPORT. The resets, and the statements about every step that speak of axes, moves, ramps and gates. -/

namespace Sys2Proof.Machine

namespace State

variable {s t u : State} {a : Axis} {m : Move}

/-! ## Resets (R67, R166) -/

/-- An axis that a reset has cleared: it has no move, no offer and no pending step, and does not move. -/
structure Cleared (x : AxisState) : Prop where
  mode : x.mode = .disabled ∨ x.mode = .idle
  moves : x.moves = []
  position : x.position = 0

theorem waitsAt_of_cleared {x : AxisState} (h : Cleared x) (g : GateTag) : x.waitsAt g = false :=
  waitsAt_of_not_gated (by have := h.mode; grind) g

/-- All the slots free, no use and no arrival counted, and every axis cleared. -/
theorem keeps_of_cleared (pool : t.poolFree = Config.poolSlots) (cleared : ∀ b, Cleared (t.ax b))
    (profs : ∀ p, (t.prof p).useCount = 0)
    (gates : ∀ g, (t.gate g).useCount = 0 ∧ (t.gate g).arrivals = 0 ∧ (t.gate g).timer = none)
    (timeout : ∀ g, (s.gate g).timeout ≤ 65535 → (t.gate g).timeout ≤ 65535)
    (legal : ∀ b, (s.ax b).configLegal = true → (t.ax b).configLegal = true)
    (limits : ∀ b, (s.ax b).Range → Config.minPosition ≤ (t.ax b).limitMin ∧ (t.ax b).limitMin ≤ (t.ax b).limitMax ∧
      (t.ax b).limitMax ≤ Config.maxPosition) : s.Keeps t := by
  have moves : t.moves = [] := by simp only [State.moves, (cleared _).moves, List.append_nil]
  have not_moving (b : Axis) : ¬((t.ax b).mode.running = true ∨ (t.ax b).mode = .stopping) := by
    have := (cleared b).mode
    rw [running_iff]; grind
  exact
    { pool := fun _ => by rw [State.PoolLaw, moves, pool]; rfl
      configs := fun h a ha => legal a (h a ha)
      uses := fun _ => ⟨fun p => by rw [profs, moves]; rfl, fun g => by rw [(gates g).1, moves]; rfl⟩
      range := fun h a ha => AxisState.inRange_iff.2
        { limits := limits a (AxisState.inRange_iff.1 (h a ha))
          position := by rw [(cleared a).position]; exact zero_in_range
          legal := by simp [(cleared a).moves]
          gated := fun gated => by have := (cleared a).mode; grind
          rest := fun moving => absurd moving (not_moving a) }
      ramps := fun _ _ a _ => AxisState.planned_iff.2 fun moving => absurd moving (not_moving a)
      exact := fun _ g a _ => by
        rw [(gates g).2.1]
        exact (inSet_zero a).trans (waitsAt_of_cleared (cleared a) g).symm
      listed := fun _ _ g a _ named => by simp [(cleared a).moves] at named
      timers := fun _ _ h g => by
        refine ⟨timeout g (h g).1, ?_, ?_⟩ <;> rw [(gates g).2.2]
        · simp
        · rfl }

theorem cleared_softReset (x : AxisState) : Cleared x.softReset :=
  ⟨by unfold AxisState.softReset; dsimp only; split <;> simp, rfl, rfl⟩

theorem shaped_softReset {x : AxisState} (h : x.shaped = true) : x.softReset.shaped = true := by
  have enable := (AxisState.shape h).enable
  by_cases disabled : x.mode = .disabled
  · simp [AxisState.shaped, AxisState.softReset, AxisState.reset, Ramp.reset, enable, disabled, Mode.running]
  · have on : x.config.enable = true := enable.trans (bne_iff_ne.2 disabled)
    simp [AxisState.shaped, AxisState.softReset, AxisState.reset, Ramp.reset, on, disabled, Mode.running]

theorem ax_softReset (s : State) (b : Axis) : s.softReset.ax b = (s.ax b).softReset := (softReset_items s b 0 0).1

theorem keeps_softReset (s : State) : s.Keeps s.softReset := by
  refine keeps_of_cleared rfl (fun b => ?_) (fun p => ?_) (fun g => ?_) (fun g => ?_) (fun b h => ?_) fun b h => ?_
  · rw [ax_softReset]; exact cleared_softReset _
  · rw [(softReset_items s .A 0 p).2.2]
  · rw [(softReset_items s .A g 0).2.1]; exact ⟨rfl, rfl, rfl⟩
  · rw [(softReset_items s .A g 0).2.1]; exact id
  · rw [ax_softReset]; exact AxisState.Goes.configLegal_of_queue (x := s.ax b) (Nat.zero_le _) rfl h
  · rw [ax_softReset]; exact h.limits

theorem runs_examineAll (hs : ∀ b, (s.ax b).shaped = true) : s.Runs (State.forAxes State.examine s) :=
  forAxes_runs (fun a _ hu => runs_examine hu a) hs

/-- SOFTRESET keeps every invariant and every axis's shape, and leaves a disabled axis disabled (R67). -/
theorem keeps_applySoftreset (hs : ∀ b, (s.ax b).shaped = true) :
    s.Keeps s.applySoftreset ∧ (∀ b, (s.applySoftreset.ax b).shaped = true) ∧
      ∀ b, (s.applySoftreset.ax b).mode = .disabled ↔ (s.ax b).mode = .disabled := by
  have shaped (b : Axis) : (s.softReset.ax b).shaped = true := by rw [ax_softReset]; exact shaped_softReset (hs b)
  have enabled (b : Axis) : (s.softReset.ax b).mode = .disabled ↔ (s.ax b).mode = .disabled := by
    rw [ax_softReset]
    by_cases disabled : (s.ax b).mode = .disabled <;> simp [AxisState.softReset, disabled]
  have latched : s.softReset.Runs (if s.softReset.stop.qualified = .low then s.softReset.latch flagSTOPIN else s.softReset) := by
    split
    · exact SameCore.runs (.of_eq rfl rfl rfl rfl) shaped
    · exact .refl shaped
  have runs := runs_settled (latched.trans (runs_examineAll latched.shaped))
  exact ⟨(keeps_softReset s).trans runs.keeps, runs.shaped, fun b => (runs.axes b).enabled.trans (enabled b)⟩

theorem keeps_hardReset (s : State) : s.Keeps s.hardReset := by
  refine keeps_of_cleared rfl (fun b => ?_) (fun p => ?_) (fun g => ?_) (fun g _ => ?_) (fun b _ => ?_) fun b _ => ?_
  · rw [ax_hardReset]; exact ⟨.inl rfl, rfl, rfl⟩
  · rw [show s.hardReset.prof p = State.reset.prof p from rfl]; revert p; decide
  · rw [show s.hardReset.gate g = State.reset.gate g from rfl]; revert g; decide
  · have reset (k : GateTag) : (State.reset.gate k).timeout ≤ 65535 := by revert k; decide
    exact reset g
  · rw [ax_hardReset]; rfl
  · rw [ax_hardReset]
    exact (by decide : Config.minPosition ≤ AxisState.reset.limitMin ∧ AxisState.reset.limitMin ≤ AxisState.reset.limitMax ∧
      AxisState.reset.limitMax ≤ Config.maxPosition)

theorem shaped_hardReset (x : AxisState) : x.hardReset.shaped = true := rfl

/-! ## Every command -/

/-- A command keeps every invariant and the shape of every axis. -/
theorem keeps_exec {c : Instr} (hs : ∀ b, (s.ax b).shaped = true) (h : exec c s = .next t) :
    s.Keeps t ∧ ∀ b, (t.ax b).shaped = true := by
  have held {f : State → State} (k : s.Keeps (f s) ∧ ∀ b, ((f s).ax b).shaped = true) :
      s.Keeps (s.operating f) ∧ ∀ b, ((s.operating f).ax b).shaped = true := by
    unfold State.operating
    split
    · exact ⟨.refl s, hs⟩
    · exact k
  have same {f : State → State} (k : s.Keeps (f s) ∧ ∀ b, (f s).ax b = s.ax b) :
      s.Keeps (s.operating f) ∧ ∀ b, ((s.operating f).ax b).shaped = true :=
    held ⟨k.1, fun b => by rw [k.2 b]; exact hs b⟩
  by_cases ord : ordinary c = true
  · exact ⟨(runs_exec hs ord h).keeps, (runs_exec hs ord h).shaped⟩
  cases c with
  | post =>
    cases h
    refine held ?_
    obtain ⟨r, e⟩ | ⟨m, admits, e⟩ := applyPost_cases s <;> rw [e]
    · exact ⟨keeps_result s r, hs⟩
    · exact ⟨(keeps_acceptMove hs admits).1, (keeps_acceptMove hs admits).2.1⟩
  | axconfig => cases h; exact held ⟨(keeps_applyAxconfig hs).1, (keeps_applyAxconfig hs).2.1⟩
  | profile => cases h; exact same (keeps_applyProfile s)
  | gateset => cases h; exact same (keeps_applyGateset s)
  | gateclear => cases h; exact same (keeps_applyGateclear s)
  | softreset => cases h; exact held ⟨(keeps_applySoftreset hs).1, (keeps_applySoftreset hs).2.1⟩
  | hardwareReset => cases h; exact ⟨keeps_hardReset s, fun b => by rw [ax_hardReset]; exact shaped_hardReset _⟩
  | _ => simp [ordinary] at ord

theorem shaped_iff : s.Shaped ↔ ∀ b, (s.ax b).shaped = true := ⟨fun h b => h b (Axis.mem_all b), fun h b _ => h b⟩

/-- A step keeps every invariant and the shape of every axis. -/
theorem keeps_step (hs : s.Shaped) (h : step s = .next t) : s.Keeps t ∧ t.Shaped := by
  have hs := shaped_iff.1 hs
  have through {u : State} {c : Instr} (same : s.SameCore u) (e : exec c u = .next t) : s.Keeps t ∧ t.Shaped := by
    have keeps := keeps_exec (same.runs hs).shaped e
    exact ⟨same.keeps.trans keeps.1, shaped_iff.2 keeps.2⟩
  obtain ⟨c, rest, -, e⟩ | ⟨-, c, u, -, hu, e⟩ | ⟨-, -, rfl⟩ := step_cases h
  · exact through (u := { s with pending := rest }) (.of_eq rfl rfl rfl rfl) e
  · refine through (u := u) ?_ e
    obtain rfl | rfl := hu
    · exact .refl _
    · exact .of_eq rfl rfl rfl rfl
  · exact ⟨(SameCore.tick s).keeps, shaped_iff.2 ((SameCore.tick s).runs hs).shaped⟩

end State

/-! ## The statements -/

/-- Settles O7: each operation takes shaped axes to shaped axes. -/
theorem axisShapeKept : Obligations.AxisShapeKept := fun _ _ hs h => (State.keeps_step hs h).2

/-- Settles O8: what gives up a slot gives up one move, and only POST takes one; a queue grows by POST alone, below its quota. -/
theorem poolLawKept : Obligations.PoolLawKept := fun _ _ hs h =>
  ⟨(State.keeps_step hs h).1.pool, (State.keeps_step hs h).1.configs⟩

/-- Settles O9: the counts fall by the moves released and rise by the move posted. -/
theorem useCountsKept : Obligations.UseCountsKept := fun _ _ hs uses h => (State.keeps_step hs h).1.uses uses

/-- Settles O11: the rest of a move lies inside the soft limits or, for a SEEK, inside the position range. -/
theorem positionsStayInRange : Obligations.PositionsStayInRange := fun _ _ hs range h =>
  (State.keeps_step hs h).1.range range

/-- Settles O13: every change of k, r or the pending step decides the step again, and no profile in use is written. -/
theorem rampsStayPlanned : Obligations.RampsStayPlanned := fun _ _ hs uses planned h =>
  (State.keeps_step hs h).1.ramps uses planned

/-- Settles O14: an axis enters GATED in an arrival, and leaves it in a firing, a timeout or a withdrawal. -/
theorem arrivalSetsStayExact : Obligations.ArrivalSetsStayExact := fun _ _ hs exact h => (State.keeps_step hs h).1.exact exact

/-- Settles O15: POST examines the member set, and the members of a gate in use are not written. -/
theorem gatedMovesStayMembers : Obligations.GatedMovesStayMembers := fun _ _ hs uses listed h =>
  (State.keeps_step hs h).1.listed uses listed

/-- Settles O16: an arrival starts the timer, and whatever empties the arrival set stops it. -/
theorem gateTimersStayGuarded : Obligations.GateTimersStayGuarded := fun _ _ hs uses exact timers h =>
  (State.keeps_step hs h).1.timers uses exact timers

end Sys2Proof.Machine
end

section
/-! SUPPORT. What the engines leave of the Report Queue and of the position counters: no operation but a deposit writes the queue,
and no operation but a pulse moves a counter by a step. One lemma for each shared operation. -/

namespace Sys2Proof.Machine

/-! ## Two positions of one counter (R59) -/

/-- A counter that no pulse has moved: the start of a SEEK, or its edge, may have put it to 0. -/
def Stood (p q : Int) : Prop := q = p ∨ q = 0

/-- A counter that one pulse has moved, put to 0 or not before and after it. -/
def Stepped (p q : Int) : Prop := q = p ∨ q = p + 1 ∨ q = p - 1 ∨ q = 0 ∨ q = 1 ∨ q = -1

theorem Stood.trans {p q r : Int} (h : Stood p q) (k : Stood q r) : Stood p r := by
  unfold Stood at *; omega

theorem Stood.stepped {p q : Int} (h : Stood p q) : Stepped p q := by
  unfold Stood Stepped at *; omega

theorem Stood.trans_stepped {p q r : Int} (h : Stood p q) (k : Stepped q r) : Stepped p r := by
  unfold Stood Stepped at *; omega

theorem Stepped.trans_stood {p q r : Int} (h : Stepped p q) (k : Stood q r) : Stepped p r := by
  unfold Stood Stepped at *; omega

/-- From `s` to `t` the position counters stand, but for a pulse on each of the axes `on`. -/
def State.Shifts (on : Axis → Prop) (s t : State) : Prop :=
  ∀ a, Stood (s.ax a).position (t.ax a).position ∨ on a ∧ Stepped (s.ax a).position (t.ax a).position

/-- From `s` to `t` nothing is deposited, and a pulse falls at most on the axes `on`. -/
structure State.Engine (on : Axis → Prop) (s t : State) : Prop where
  reports : t.reports = s.reports
  shifts : s.Shifts on t

/-- No axis. -/
abbrev nowhere : Axis → Prop := fun _ => False

namespace State

variable {s t u : State} {a : Axis} {on more : Axis → Prop}

theorem Shifts.refl (s : State) (on : Axis → Prop) : s.Shifts on s := fun _ => .inl (.inl rfl)

/-- A pulse on each axis once. -/
theorem Shifts.trans (h : s.Shifts on t) (k : t.Shifts more u) (once : ∀ a, on a → ¬more a) :
    s.Shifts (fun a => on a ∨ more a) u := fun a => by
  rcases h a with h | ⟨at_a, h⟩ <;> rcases k a with k | ⟨also, k⟩
  · exact .inl (h.trans k)
  · exact .inr ⟨.inr also, h.trans_stepped k⟩
  · exact .inr ⟨.inl at_a, h.trans_stood k⟩
  · exact absurd also (once a at_a)

theorem Shifts.mono (h : s.Shifts on t) (le : ∀ a, on a → more a) : s.Shifts more t := fun a =>
  (h a).imp_right fun ⟨at_a, k⟩ => ⟨le a at_a, k⟩

/-- Operations without a pulse come before and after one. -/
theorem Shifts.after (h : s.Shifts nowhere t) (k : t.Shifts on u) : s.Shifts on u :=
  (h.trans k fun _ => False.elim).mono fun _ => Or.rec False.elim id

theorem Shifts.before (h : s.Shifts on t) (k : t.Shifts nowhere u) : s.Shifts on u :=
  (h.trans k fun _ _ => id).mono fun _ => Or.rec id False.elim

theorem Shifts.stepped (h : s.Shifts on t) (a : Axis) : Stepped (s.ax a).position (t.ax a).position :=
  (h a).elim Stood.stepped And.right

namespace Engine

theorem refl (s : State) (on : Axis → Prop) : s.Engine on s := ⟨rfl, .refl s on⟩

theorem after (h : s.Engine nowhere t) (k : t.Engine on u) : s.Engine on u :=
  ⟨k.reports.trans h.reports, h.shifts.after k.shifts⟩

theorem mono (h : s.Engine on t) (le : ∀ a, on a → more a) : s.Engine more t := ⟨h.reports, h.shifts.mono le⟩

theorem widen (h : s.Engine nowhere t) (on : Axis → Prop) : s.Engine on t := h.mono fun _ => False.elim

/-- The axes and the Report Queue are as they were. -/
theorem of_eq (axes : t.axes = s.axes) (reports : t.reports = s.reports) : s.Engine on t :=
  ⟨reports, fun a => .inl (.inl (by simp only [State.ax, axes]))⟩

theorem modAx (s : State) (a : Axis) (f : AxisState → AxisState) (h : Stood (s.ax a).position (f (s.ax a)).position) :
    s.Engine on (s.modAx a f) :=
  ⟨rfl, fun b => .inl (by
    rw [ax_modAx]
    split
    · next e => exact e ▸ h
    · exact .inl rfl)⟩

theorem modGate (s : State) (g : GateTag) (f : Gate → Gate) : s.Engine on (s.modGate g f) := of_eq rfl rfl

theorem latch (s : State) (flag : BitVec 3) : s.Engine on (s.latch flag) := of_eq rfl rfl

theorem result (s : State) (r : Result) : s.Engine on (s.result r) := of_eq rfl rfl

theorem release (s : State) (m : Move) : s.Engine on (s.release m) := by
  rw [release_eq]; exact of_eq rfl rfl

theorem offerReport (s : State) (a : Axis) (k : Finding) (tag : Byte) (aux : Nat) :
    s.Engine on (s.offerReport a k tag aux) := modAx s a _ (.inl rfl)

theorem enterHalted (s : State) (a : Axis) (c : HaltCause) : s.Engine on (s.enterHalted a c) :=
  after (modAx s a _ (.inl rfl)) (latch _ _)

theorem withdraw (s : State) (a : Axis) : s.Engine on (s.withdraw a) := by
  unfold State.withdraw
  split
  · exact refl s on
  · exact modGate s _ _

/-! ## Ends, pulses and stops -/

theorem endMove (s : State) (a : Axis) (k : Finding) (aux : Nat) : s.Engine on (s.endMove a k aux) := by
  unfold State.endMove
  split
  · exact refl s on
  · exact after (modAx s a _ (.inl rfl)) (after (release _ _) (offerReport _ a _ _ _))

theorem endAtRest (s : State) (a : Axis) : s.Engine on (s.endAtRest a) := by
  unfold State.endAtRest
  dsimp only
  split
  · exact endMove _ _ _ _
  · exact endMove _ _ _ _
  · exact refl s on

theorem replan (s : State) (a : Axis) (r : Nat) : s.Engine on (s.replan a r) := by
  unfold State.replan
  split
  · exact after (modAx s a _ (.inl rfl)) (endAtRest _ a)
  · exact modAx s a _ (.inl rfl)

theorem emit (s : State) (a : Axis) (st : PendingStep) : s.Engine (· = a) (s.modAx a (·.emit st)) := by
  refine ⟨rfl, fun b => ?_⟩
  rw [ax_modAx]
  split
  · next e =>
    subst e
    refine .inr ⟨rfl, ?_⟩
    show Stepped (s.ax b).position ((s.ax b).position + (s.ax b).ramp.dir.sign)
    cases (s.ax b).ramp.dir
    · exact .inr (.inl rfl)
    · exact .inr (.inr (.inl rfl))
  · exact .inl (.inl rfl)

/-- A pulse, then operations without one. -/
theorem before (h : s.Engine on t) (k : t.Engine nowhere u) : s.Engine on u :=
  ⟨k.reports.trans h.reports, h.shifts.before k.shifts⟩

theorem pulse (s : State) (a : Axis) : s.Engine (· = a) (s.pulse a) := by
  unfold State.pulse
  split
  · exact refl s _
  next st _ =>
  have emits := emit s a st
  dsimp only
  split
  · exact emits.before (endAtRest _ a)
  split
  · exact emits.before (after (modAx _ a _ (.inl rfl)) (replan _ a _))
  · exact emits.before (replan _ a _)

theorem replanNow (s : State) (a : Axis) (r : Nat) : s.Engine (· = a) (s.replanNow a r) := by
  unfold State.replanNow
  dsimp only
  split
  · exact after (replan s a r) (pulse _ a)
  · exact replan s a r

theorem controlledStop (s : State) (a : Axis) (intent : Option Finding) :
    s.Engine (· = a) (s.controlledStop a intent) := by
  unfold State.controlledStop
  cases intent with
  | none => exact replanNow s a _
  | some k => exact after (modAx s a _ (.inl rfl)) (replanNow _ a _)

/-! ## Starts, gates and takes -/

theorem startMove (s : State) (a : Axis) : s.Engine nowhere (s.startMove a) := by
  cases current : (s.ax a).current with
  | none => rw [State.startMove, current]; exact refl s _
  | some m =>
    obtain ⟨ms, -, e⟩ | ⟨p, -, -, e⟩ | ⟨k, b, e⟩ := startMove_cases current <;> rw [e]
    · exact modAx s a _ (.inl rfl)
    · exact modAx s a _ (.inl rfl)
    · refine after (modAx s a _ ?_) (endMove _ a _ _)
      cases b
      · exact .inl rfl
      · exact .inr rfl

theorem forAxes {f : Axis → State → State} (h : ∀ (a : Axis) (s : State), s.Engine nowhere (f a s)) (s : State) :
    s.Engine nowhere (State.forAxes f s) :=
  after (h .A s) (after (h .B _) (after (h .C _) (h .D _)))

theorem ite {p : Prop} [Decidable p] (h : s.Engine on t) (k : s.Engine on u) : s.Engine on (if p then t else u) := by
  split <;> assumption

theorem fireGate (s : State) (g : GateTag) : s.Engine nowhere (s.fireGate g) := by
  unfold State.fireGate
  exact (modGate s g _).after (forAxes (fun a u => ite (startMove u a) (refl u _)) _)

theorem arrive (s : State) (a : Axis) (g : GateTag) : s.Engine nowhere (s.arrive a g) := by
  unfold State.arrive
  dsimp only
  refine after (modAx s a AxisState.arrived (.inl rfl)) (after (modGate _ g (·.arrive a)) ?_)
  split
  · exact fireGate _ g
  · exact refl _ _

theorem take (s : State) (a : Axis) (m : Move) : s.Engine nowhere (s.take a m) := by
  rw [take_eq]
  refine after (modAx s a (·.taking m) (.inl rfl)) ?_
  split
  · exact endMove _ a _ _
  split
  · exact arrive _ a _
  · exact startMove _ a

theorem takeNext (s : State) (a : Axis) : s.Engine nowhere (s.takeNext a) := by
  unfold State.takeNext
  split
  · exact modAx s a _ (.inl rfl)
  · exact after (modAx s a _ (.inl rfl)) (take _ a _)

theorem followPath (s : State) (a : Axis) (p : Path) : s.Engine nowhere (s.followPath a p) := by
  cases p with
  | cont => exact takeNext s a
  | halted c => exact enterHalted s a c

theorem delivered (s : State) (a : Axis) (p : Path) : s.Engine nowhere (s.delivered a p) := by
  unfold State.delivered
  split
  · exact after (modAx s a _ (.inl rfl)) (offerReport _ a _ _ _)
  · exact after (modAx s a _ (.inl rfl)) (followPath _ a p)

/-! ## Stops, faults and edges -/

theorem stopAxis (source : StopSource) (a : Axis) (s : State) : s.Engine (· = a) (State.stopAxis source a s) := by
  have running (aux : Nat) : s.Engine (· = a)
      (match s.style with
      | .controlled => s.controlledStop a (some (.stopped source))
      | .immediate => s.endMove a (.stopped source) aux) := by
    split
    · exact controlledStop s a _
    · exact endMove s a _ _
  unfold State.stopAxis
  dsimp only
  split
  · exact running _
  · exact running _
  · exact running _
  · exact endMove s a _ _
  · exact after (withdraw s a) (after (modAx _ a _ (.inl rfl)) (enterHalted _ a _))
  · exact enterHalted s a _
  · exact modAx s a _ (.inl rfl)
  all_goals exact refl s _

/-- Each axis is visited once. -/
theorem stopAll (s : State) (source : StopSource) : s.Engine (fun _ => True) (s.stopAll source) := by
  have visit (a : Axis) (u : State) : u.Engine (· = a) (State.stopAxis source a u) := stopAxis source a u
  have hA := visit .A s
  have hB := visit .B (State.stopAxis source .A s)
  have hC := visit .C (State.stopAxis source .B (State.stopAxis source .A s))
  have hD := visit .D (State.stopAxis source .C (State.stopAxis source .B (State.stopAxis source .A s)))
  refine ⟨((hD.reports.trans hC.reports).trans hB.reports).trans hA.reports, ?_⟩
  have hAB := hA.shifts.trans hB.shifts fun b => by cases b <;> simp
  have hABC := hAB.trans hC.shifts fun b => by cases b <;> simp
  exact (hABC.trans hD.shifts fun b => by cases b <;> simp).mono fun _ _ => trivial

theorem driveFault (s : State) (a : Axis) (d : DriveDetail) : s.Engine nowhere (s.driveFault a d) := by
  have caused : s.Engine nowhere (s.modAx a fun x => { x with cause := .drive }) := modAx s a _ (.inl rfl)
  unfold State.driveFault
  dsimp only
  split
  · exact refl s _
  · exact caused.after (endMove _ a _ _)
  · exact caused.after (endMove _ a _ _)
  · exact caused.after (endMove _ a _ _)
  · exact caused.after (endMove _ a _ _)
  · exact caused.after (endMove _ a _ _)
  · exact caused.after (after (withdraw _ a) (after (modAx _ a _ (.inl rfl)) (offerReport _ a _ _ _)))
  · exact caused.after (offerReport _ a _ _ _)
  · exact caused.after (offerReport _ a _ _ _)
  · exact caused.after (modAx _ a _ (.inl rfl))

theorem examine (a : Axis) (s : State) : s.Engine nowhere (State.examine a s) := by
  have stopped : s.Engine nowhere (if s.stop.qualified = .low ∧ (s.ax a).mode = .idle then s.enterHalted a .stopLine else s) :=
    ite (enterHalted s a _) (refl s _)
  exact stopped.after (ite (driveFault _ a _) (refl _ _))

theorem timeoutAxis (s : State) (a : Axis) (g : GateTag) (set : AxisSet) : s.Engine nowhere (s.timeoutAxis a g set) :=
  after (modAx s a _ (.inl rfl)) (offerReport _ a _ _ _)

theorem expireGate (s : State) (g : GateTag) : s.Engine nowhere (s.expireGate g) := by
  unfold State.expireGate
  exact (modGate s g _).after (forAxes (fun a u => ite (timeoutAxis u a g _) (refl u _)) _)

theorem trailingEdge (s : State) (a : Axis) : s.Engine nowhere (s.trailingEdge a) := by
  unfold State.trailingEdge
  dsimp only
  split
  · exact modAx s a _ (.inl rfl)
  · exact refl s _

theorem passMark (s : State) (a : Axis) : s.Engine nowhere (s.passMark a) := by
  have choice : s.Engine nowhere { s with choices := s.choices + 1 } := of_eq rfl rfl
  unfold State.passMark
  split
  · dsimp only
    split
    · exact choice.after (after (modAx _ a _ (.inl rfl)) (trailingEdge _ a))
    · exact choice
  · exact refl s _

theorem register (s : State) (a : Axis) (d : Nat) : s.Engine (· = a) (s.register a d) :=
  after (modAx s a _ (.inl rfl)) (replanNow _ a _)

theorem leadingEdge (s : State) (a : Axis) : s.Engine (· = a) (s.leadingEdge a) := by
  have mark (part : MarkPart) : s.Engine (· = a)
      (if (s.ax a).mark.window = .opened then
        let s := s.modAx a fun x =>
          { x with
            mark := { x.mark with window := .found, position := some x.position, width := .counting, widthCount := 0 } }
        match part.stopDistance with
        | none => s
        | some d => (if s.replansAtOnce a d then s.passMark a else s).register a d
      else s) := by
    split
    · refine after (modAx s a (fun x => { x with
        mark := { x.mark with window := .found, position := some x.position, width := .counting, widthCount := 0 } })
        (.inl rfl)) ?_
      dsimp only
      split
      · exact refl _ _
      · exact after (ite (passMark _ a) (refl _ _)) (register _ a _)
    · exact refl s _
  unfold State.leadingEdge
  dsimp only
  split
  · split
    · split
      · refine after (modAx s a _ ?_) (controlledStop _ a _)
        split
        · exact .inr rfl
        · exact .inl rfl
      · exact refl s _
    · exact mark _
    · exact mark _
    all_goals exact refl s _
  · exact refl s _

theorem acceptSens (s : State) (a : Axis) :
    s.Engine (fun b => b = a ∧ (s.ax a).sens.pin = (s.ax a).config.activeLevel) (s.acceptSens a) := by
  unfold State.acceptSens
  dsimp only
  refine after (modAx s a (fun x => { x with sens := x.sens.accept }) (.inl rfl)) ?_
  split
  · next leading =>
    refine (leadingEdge _ a).mono fun b e => ⟨e, ?_⟩
    rw [ax_modAx_self] at leading
    exact leading
  · exact (trailingEdge _ a).widen _

end Engine

/-! ## Grants -/

theorem shifts_grant (s : State) (a : Axis) : s.Shifts nowhere (s.grant a) := by
  cases offer : (s.ax a).offer with
  | none => rw [State.grant, offer]; exact .refl s _
  | some o => rw [grant_eq offer]; exact (Engine.delivered (s.deposit o.report) a o.path).shifts

theorem shifts_settle (s : State) : s.Shifts nowhere s.settle := by
  unfold State.settle
  generalize Config.reportPlaces - s.reports.reports.length = n
  induction n generalizing s with
  | zero => exact .refl s _
  | succ n ih =>
    rw [State.grantPlaces]
    split
    · exact .refl s _
    · exact (shifts_grant s _).after (ih _)

end State
end Sys2Proof.Machine
end

section
/-! SUPPORT. The Report Queue: grants fill the list or leave no axis waiting, and every command keeps its order. -/

namespace Sys2Proof.Machine

/-- What R125, R130 and R132 ask of the Report Queue itself. -/
structure ReportQueue.Ordered (q : ReportQueue) : Prop where
  places : q.reports.length ≤ Config.reportPlaces
  pointer : q.pointer ≤ 10
  empty : q.reports = [] → q.pointer = 0
  numbers : consecutive q.reports q.seq = true

/-- A deposit takes the next number. -/
theorem consecutive_append {l : List Deposited} {seq : Byte} (h : consecutive l seq = true) (r : Report) :
    consecutive (l ++ [{ seq := seq, report := r }]) (seq + 1) = true := by
  induction l with
  | nil => simp [consecutive]
  | cons d rest ih =>
    simp only [consecutive, Bool.and_eq_true, beq_iff_eq] at h
    simp only [List.cons_append, consecutive, Bool.and_eq_true, beq_iff_eq, List.length_append, List.length_singleton]
    refine ⟨h.1.trans ?_, ih h.2⟩
    rw [BitVec.ofNat_add (rest.length + 1) 1]
    simp only [BitVec.sub_eq_add_neg, BitVec.neg_add]
    bv_omega

namespace State

variable {s t u : State} {a : Axis}

theorem reportsOrdered_iff : s.ReportsOrdered ↔
    s.reports.Ordered ∧ ∀ a, (s.ax a).offer.isSome = true → s.reports.reports.length = Config.reportPlaces :=
  ⟨fun ⟨places, pointer, empty, numbers, waits⟩ => ⟨⟨places, pointer, empty, numbers⟩, fun a => waits a (Axis.mem_all a)⟩,
    fun ⟨⟨places, pointer, empty, numbers⟩, waits⟩ => ⟨places, pointer, empty, numbers, fun a _ => waits a⟩⟩

theorem ordered_deposit (h : s.reports.Ordered) (room : s.reports.reports.length < Config.reportPlaces) (r : Report) :
    (s.deposit r).reports.Ordered := by
  rw [deposit_reports]
  exact
    { places := by simpa using room
      pointer := h.pointer
      empty := by simp
      numbers := consecutive_append h.numbers r }

/-- A grant fills one place. -/
theorem reports_grant {o : Offer} (offer : (s.ax a).offer = some o) : (s.grant a).reports = (s.deposit o.report).reports := by
  rw [grant_eq offer]
  exact (Engine.delivered _ a o.path).reports

/-- The grants keep the order of the queue, and end with the list full or with no axis waiting. -/
theorem reportsOrdered_grantPlaces (n : Nat) {s : State} (h : s.reports.Ordered)
    (places : s.reports.reports.length + n = Config.reportPlaces) : (s.grantPlaces n).ReportsOrdered := by
  induction n generalizing s with
  | zero => exact reportsOrdered_iff.2 ⟨h, fun _ _ => places⟩
  | succ n ih =>
    rw [State.grantPlaces]
    split
    · next none =>
      have no_offer := (nextCandidate_eq_none s).1 none
      exact reportsOrdered_iff.2 ⟨h, fun a waits => by simp [no_offer a (Axis.mem_all a)] at waits⟩
    · next a candidate =>
      obtain ⟨o, offer⟩ := Option.isSome_iff_exists.1 (offer_of_nextCandidate s candidate)
      refine ih ?_ ?_ <;> rw [reports_grant offer]
      · exact ordered_deposit h (by omega) o.report
      · rw [deposit_reports]; simp only [List.length_append, List.length_singleton]; omega

theorem reportsOrdered_settle (h : s.reports.Ordered) : s.settle.ReportsOrdered :=
  reportsOrdered_grantPlaces _ h (by have := h.places; omega)

/-! ## What a command does to the queue and to the waiting axes -/

/-- The order of the queue carries over. -/
abbrev Orders (s t : State) : Prop := s.ReportsOrdered → t.ReportsOrdered

/-- Nothing is deposited and no axis begins to wait. -/
theorem orders_of_same (reports : t.reports = s.reports) (offers : ∀ a, (t.ax a).offer = (s.ax a).offer) : s.Orders t := by
  intro h
  rw [reportsOrdered_iff] at h ⊢
  rw [reports]
  exact ⟨h.1, fun a => by rw [offers]; exact h.2 a⟩

theorem orders_of_eq (reports : t.reports = s.reports) (axes : t.axes = s.axes) : s.Orders t :=
  orders_of_same reports fun a => by simp only [State.ax, axes]

theorem orders_modAx (s : State) (a : Axis) (f : AxisState → AxisState) (h : (f (s.ax a)).offer = (s.ax a).offer) :
    s.Orders (s.modAx a f) :=
  orders_of_same rfl fun b => by
    rw [ax_modAx]
    split
    · next e => exact e ▸ h
    · rfl

/-- An operation of the engines, and the grants that follow it. -/
theorem orders_settle {on : Axis → Prop} (h : s.Engine on u) : s.Orders u.settle := fun k =>
  reportsOrdered_settle (h.reports ▸ (reportsOrdered_iff.1 k).1)

theorem orders_if {c : Prop} [Decidable c] (h : c → s.Orders t) : s.Orders (if c then t else s) := by
  split
  · next holds => exact h holds
  · exact id

theorem orders_operating {f : State → State} (h : s.Orders (f s)) : s.Orders (s.operating f) := by
  unfold State.operating
  split
  · exact id
  · exact h

theorem orders_result (s : State) (r : Result) : s.Orders (s.result r) := orders_of_eq rfl rfl

/-! ## Commands -/

theorem orders_takeSens (s : State) (a : Axis) : s.Orders (s.takeSens a) := orders_settle (.acceptSens s a)

theorem orders_sensPin (s : State) (a : Axis) (level : Level) : s.Orders (s.sensPin a level) := by
  unfold State.sensPin
  split
  · exact id
  have left : s.Orders (if (s.ax a).sens.leaves level (s.ax a).config.filter then s.takeSens a else s) :=
    orders_if fun _ => orders_takeSens s a
  dsimp only
  generalize (if (s.ax a).sens.leaves level (s.ax a).config.filter then s.takeSens a else s) = u at left ⊢
  have set := orders_modAx u a (fun x => { x with sens := x.sens.setPin level }) rfl
  exact fun h => orders_if (fun _ => orders_takeSens _ a) (set (left h))

theorem orders_takeFlt (s : State) (a : Axis) : s.Orders (s.takeFlt a) := by
  have accepts : s.Engine nowhere (s.acceptFlt a) := .modAx s a _ (.inl rfl)
  unfold State.takeFlt
  split
  · exact orders_settle (accepts.after (.driveFault _ a _))
  · exact orders_modAx s a _ rfl

theorem orders_fltPin (s : State) (a : Axis) (level : Level) : s.Orders (s.fltPin a level) := by
  have left : s.Orders (if (s.ax a).drive.flt.leaves level Config.lineFilter then s.takeFlt a else s) :=
    orders_if fun _ => orders_takeFlt s a
  exact fun h => orders_modAx _ a (fun x => { x with drive := { x.drive with flt := x.drive.flt.setPin level } }) rfl (left h)

theorem orders_takeStop (s : State) : s.Orders s.takeStop := by
  have latched : s.Engine nowhere ({ s with stop := s.stop.accept }.latch flagSTOPIN) := .of_eq rfl rfl
  unfold State.takeStop
  dsimp only
  split
  · exact orders_settle (latched.after (.stopAll _ .line))
  · exact orders_of_eq rfl rfl

theorem orders_stopPin (s : State) (level : Level) : s.Orders (s.stopPin level) := by
  have left : s.Orders (if s.stop.leaves level Config.lineFilter then s.takeStop else s) :=
    orders_if fun _ => orders_takeStop s
  exact fun h => orders_of_eq (t := State.stopPin s level) rfl rfl (left h)

theorem orders_takeSample (s : State) (a : Axis) (step dir : Level) : s.Orders (s.takeSample a step dir) := by
  unfold State.takeSample
  split
  · exact id
  dsimp only
  split
  · exact orders_modAx s a _ rfl
  · exact orders_settle (.after (.modAx s a _ (.inl rfl)) (.driveFault _ a _))

theorem orders_acceptMove (s : State) (m : Move) : s.Orders (s.acceptMove m) := by
  have posted : s.Engine nowhere (s.posted m) :=
    ⟨by rw [posted, result_reports, modAx_reports, allocate_eq], fun b => .inl (.inl (by rw [ax_posted]; split <;> rfl))⟩
  rw [acceptMove_eq]
  split
  · exact orders_settle (posted.after (.takeNext _ _))
  · exact orders_of_same posted.reports fun b => by rw [ax_posted]; split <;> rfl

theorem orders_applyPost (s : State) : s.Orders s.applyPost := by
  obtain ⟨r, e⟩ | ⟨m, -, e⟩ := applyPost_cases s <;> rw [e]
  · exact orders_result s r
  · exact orders_acceptMove s m

theorem orders_applyAbort (s : State) : s.Orders s.applyAbort := by
  have ok : s.Engine nowhere (s.result .ok) := .result s _
  unfold State.applyAbort
  dsimp only
  split
  · exact orders_settle (ok.after (.controlledStop _ _ _))
  · exact orders_settle (ok.after (.controlledStop _ _ _))
  · exact orders_settle (ok.after (.controlledStop _ _ _))
  · exact orders_settle (ok.after (.after (.withdraw _ _) (.endMove (on := nowhere) _ _ _ _)))
  · exact orders_settle (ok.after (.endMove (on := nowhere) _ _ _ _))
  all_goals exact orders_result s _

theorem orders_applyResume (s : State) : s.Orders s.applyResume := by
  unfold State.applyResume
  dsimp only
  split
  · exact orders_result s _
  split
  · exact orders_result s _
  split
  · exact orders_result s _
  have resumes : s.Engine nowhere ((s.modAx s.axsel fun x => { x with cause := .none, held := none }).result .ok) :=
    .after (.modAx s _ _ (.inl rfl)) (.result _ _)
  split
  · exact orders_settle (resumes.after (.take _ _ _))
  · exact orders_settle (resumes.after (.takeNext _ _))

theorem orders_applyAxconfig (s : State) : s.Orders s.applyAxconfig := by
  obtain ⟨r, -, e⟩ | ⟨-, -, -, e⟩ := applyAxconfig_cases s <;> rw [e]
  · exact orders_result s r
  split
  · exact orders_settle (.after (.modAx s _ _ (.inl rfl)) (.after (.result _ _) (.examine _ _)))
  · exact fun h => orders_result _ _ (orders_modAx s _ _ rfl h)

theorem orders_applyProfile (s : State) : s.Orders s.applyProfile := by
  obtain ⟨r, e⟩ | ⟨p, -, -, e⟩ := applyProfile_cases s <;> rw [e] <;> exact orders_of_eq rfl rfl

theorem orders_applyGateset (s : State) : s.Orders s.applyGateset := by
  obtain ⟨r, e⟩ | ⟨g, -, e⟩ := applyGateset_cases s <;> rw [e] <;> exact orders_of_eq rfl rfl

theorem orders_applyGateclear (s : State) : s.Orders s.applyGateclear := by
  obtain ⟨r, e⟩ | ⟨g, -, e⟩ := applyGateclear_cases s <;> rw [e] <;> exact orders_of_eq rfl rfl

theorem orders_applyProfquery (s : State) : s.Orders s.applyProfquery := by
  obtain ⟨r, -, e⟩ | ⟨block, e⟩ := applyProfquery_cases s <;> rw [e] <;> exact orders_of_eq rfl rfl

theorem orders_applyGatequery (s : State) : s.Orders s.applyGatequery := by
  obtain ⟨r, -, e⟩ | ⟨block, e⟩ := applyGatequery_cases s <;> rw [e] <;> exact orders_of_eq rfl rfl

/-- POP frees a place, and the grants follow. -/
theorem orders_applyPop (s : State) : s.Orders s.applyPop := by
  unfold State.applyPop
  split
  · exact orders_result s _
  · next d rest list =>
    intro h
    have order := (reportsOrdered_iff.1 h).1
    have places := order.places
    have numbers := order.numbers
    rw [list] at places numbers
    refine reportsOrdered_settle ⟨?_, Nat.zero_le _, fun _ => rfl, ?_⟩
    · exact (Nat.le_succ _).trans places
    · simp only [consecutive, Bool.and_eq_true] at numbers
      exact numbers.2

/-- The part after a soft reset and the examination of its inputs, before the grants (R67, R165). -/
def examined (s : State) : State :=
  State.forAxes State.examine (if s.softReset.stop.qualified = .low then s.softReset.latch flagSTOPIN else s.softReset)

theorem applySoftreset_eq (s : State) : s.applySoftreset = s.examined.settle := rfl

theorem engine_examined (s : State) : s.softReset.Engine nowhere s.examined := by
  have latched : s.softReset.Engine nowhere
      (if s.softReset.stop.qualified = .low then s.softReset.latch flagSTOPIN else s.softReset) :=
    .ite (.latch _ _) (.refl _ _)
  exact latched.after (.forAxes .examine _)

theorem orders_applySoftreset (s : State) : s.Orders s.applySoftreset := fun _ => by
  rw [applySoftreset_eq]
  refine reportsOrdered_settle ?_
  rw [(engine_examined s).reports]
  exact ⟨Nat.zero_le _, Nat.zero_le _, fun _ => rfl, rfl⟩

theorem orders_hardReset (s : State) : s.Orders s.hardReset := fun _ =>
  reportsOrdered_iff.2 ⟨⟨Nat.zero_le _, Nat.zero_le _, fun _ => rfl, rfl⟩, fun a waits => by
    rw [ax_hardReset] at waits; cases waits⟩

theorem orders_applyFlush (s : State) : s.Orders s.applyFlush := by
  by_cases disabled : (s.ax s.axsel).mode = .disabled
  · rw [applyFlush_of_disabled disabled]; exact orders_result s _
  · rw [applyFlush_of_enabled disabled]
    exact orders_of_same rfl fun b => by
      rw [show s.flushed.ax b = (s.setAx s.axsel { s.ax s.axsel with queue := [], held := none }).ax b from rfl, ax_setAx]
      split
      · next e => rw [e]
      · rfl

theorem ordered_nextPointer {q : ReportQueue} (h : q.Ordered) : ({ q with pointer := q.nextPointer } : ReportQueue).Ordered where
  places := h.places
  numbers := h.numbers
  pointer := by
    have := h.pointer
    show q.nextPointer ≤ 10
    unfold ReportQueue.nextPointer
    split
    · exact this
    · split <;> omega
  empty empty := by
    have empty : q.reports = [] := empty
    show q.nextPointer = 0
    simp [ReportQueue.nextPointer, empty, h.empty empty]

/-- 1 µs moves neither the queue nor an offer. -/
theorem orders_tick (s : State) : s.Orders s.tick := by
  cases held : s.inReset with
  | true => rw [tick_of_inReset s held]; exact id
  | false => exact orders_of_same (by simp [State.tick, held]) fun a => by rw [ax_tick s a held]; rfl

theorem orders_exec {c : Instr} (h : exec c s = .next t) : s.Orders t := by
  cases c with
  | post => cases h; exact orders_operating (orders_applyPost s)
  | abort => cases h; exact orders_operating (orders_applyAbort s)
  | flush => cases h; exact orders_operating (orders_applyFlush s)
  | resume => cases h; exact orders_operating (orders_applyResume s)
  | setpos =>
    cases h
    refine orders_operating ?_
    rw [applySetpos_eq]
    split
    · exact orders_result s _
    split
    · exact orders_result s _
    · exact orders_modAx s s.axsel (fun x => { x with position := s.blockPosition }) rfl
  | limits =>
    cases h
    refine orders_operating ?_
    rw [applyLimits_eq]
    split
    · exact orders_result s _
    split
    · exact orders_result s _
    · exact orders_modAx s s.axsel (fun x => { x with limitMin := s.blockLimitMin, limitMax := s.blockLimitMax }) rfl
  | axconfig => cases h; exact orders_operating (orders_applyAxconfig s)
  | axquery => cases h; exact orders_operating (orders_of_eq rfl rfl)
  | profile => cases h; exact orders_operating (orders_applyProfile s)
  | profquery => cases h; exact orders_operating (orders_applyProfquery s)
  | gateset => cases h; exact orders_operating (orders_applyGateset s)
  | gateclear => cases h; exact orders_operating (orders_applyGateclear s)
  | gatequery => cases h; exact orders_operating (orders_applyGatequery s)
  | pop => cases h; exact orders_operating (orders_applyPop s)
  | haltall => cases h; exact orders_operating (orders_settle (.after (.result s .ok) (.stopAll _ .command)))
  | softreset => cases h; exact orders_operating (orders_applySoftreset s)
  | badCommand code =>
    simp only [exec, execBadCommand] at h
    split at h
    · cases h
    · cases h; exact orders_operating (orders_result s _)
  | axpos0Read => cases h; split <;> exact orders_of_eq rfl rfl
  | rdataRead =>
    cases h
    split
    · exact orders_of_eq rfl rfl
    · intro h
      rw [reportsOrdered_iff] at h ⊢
      exact ⟨ordered_nextPointer h.1, h.2⟩
  | iflagWrite value => cases h; exact orders_operating (orders_of_eq rfl rfl)
  | windowWrite offset value =>
    simp only [exec, execWindowWrite] at h
    split at h
    · cases h
    · cases h; exact orders_operating (by rw [writeLocation_eq]; exact orders_of_eq rfl rfl)
  | hardwareReset => cases h; exact orders_hardReset s
  | resetRelease =>
    cases h
    exact orders_if fun _ => orders_of_same rfl fun a => by rw [ax_releaseReset]; rfl
  | stepPulse a => cases h; exact orders_operating (orders_if fun _ => orders_settle (.pulse s a))
  | stepHighTimeEnd a => cases h; exact orders_operating (orders_if fun _ => orders_modAx s a _ rfl)
  | readbackSample a step dir => cases h; exact orders_operating (orders_takeSample s a step dir)
  | dwellExpiry a =>
    cases h; exact orders_operating (orders_if fun _ => orders_settle (.endMove (on := nowhere) s a _ _))
  | gateTimerExpiry g => cases h; exact orders_operating (orders_if fun _ => orders_settle (.expireGate s g))
  | gateFire g => cases h; exact orders_operating (orders_if fun _ => orders_settle (.fireGate s g))
  | placeGranted => cases h; exact orders_operating (orders_settle (.refl s nowhere))
  | sensPinChange a level =>
    cases h
    split
    · exact orders_modAx s a _ rfl
    · exact orders_sensPin s a level
  | leadingEdge a => cases h; exact orders_operating (orders_if fun _ => orders_takeSens s a)
  | trailingEdge a => cases h; exact orders_operating (orders_if fun _ => orders_takeSens s a)
  | fltPinChange a level =>
    cases h
    split
    · exact orders_modAx s a _ rfl
    · exact orders_fltPin s a level
  | fltAssertion a => cases h; exact orders_operating (orders_if fun _ => orders_takeFlt s a)
  | fltDeassertion a => cases h; exact orders_operating (orders_if fun _ => orders_takeFlt s a)
  | stopPinChange level =>
    cases h
    split
    · exact orders_of_eq rfl rfl
    · exact orders_stopPin s level
  | stopAssertion => cases h; exact orders_operating (orders_if fun _ => orders_takeStop s)
  | stopDeassertion => cases h; exact orders_operating (orders_if fun _ => orders_takeStop s)

end State

/-- Settles O10: a grant fills one place, grants go on until the list is full or no axis waits, and no other operation writes
the queue. -/
theorem reportQueueOrderKept : Obligations.ReportQueueOrderKept := fun _ _ hs h =>
  step_keeps (P := State.ReportsOrdered) (fun _ _ => State.orders_of_eq rfl rfl) (fun _ _ => State.orders_of_eq rfl rfl)
    (fun _ _ _ k e => State.orders_exec e k) State.orders_tick hs h

end Sys2Proof.Machine
end

section
/-! SUPPORT. What each command writes of the setup, the port and the inputs, and what it leaves of them. -/

namespace Sys2Proof.Machine

/-! ## The setup and the port without the inputs -/

/-- The items of the part that neither an engine nor an input writes, and flags that these can only latch. -/
structure State.SameBase (s t : State) : Prop where
  limits : ∀ a, (t.ax a).limitMin = (s.ax a).limitMin ∧ (t.ax a).limitMax = (s.ax a).limitMax
  config : ∀ a, (t.ax a).config = (s.ax a).config
  gates : ∀ g, (t.gate g).members = (s.gate g).members ∧ (t.gate g).timeout = (s.gate g).timeout
  profs : ∀ p, (t.prof p).start = (s.prof p).start ∧ (t.prof p).cruise = (s.prof p).cruise ∧
    (t.prof p).length = (s.prof p).length
  style : t.style = s.style
  block : t.block = s.block
  cres : t.cres = s.cres
  axsel : t.axsel = s.axsel
  snapshot : t.snapshot = s.snapshot
  ienable : t.ienable = s.ienable
  pending : t.pending = s.pending
  flags : ∀ i : Fin 3, s.iflag.getLsbD i = true → t.iflag.getLsbD i = true

/-- The inputs as the part knows them. -/
structure State.SameInputs (s t : State) : Prop where
  reset : t.inReset = s.inReset
  stop : t.stop = s.stop
  sens : ∀ a, (t.ax a).sens = (s.ax a).sens
  flt : ∀ a, (t.ax a).drive.flt = (s.ax a).drive.flt

namespace State

variable {s t u : State} {a : Axis}

theorem SameSetup.base (h : s.SameSetup t) : s.SameBase t where
  limits a := ⟨(h.ax a).limitMin, (h.ax a).limitMax⟩
  config a := (h.ax a).config
  gates g := ⟨h.members g, h.timeout g⟩
  profs p := ⟨h.start p, h.cruise p, h.length p⟩
  style := h.style
  block := h.block
  cres := h.cres
  axsel := h.axsel
  snapshot := h.snapshot
  ienable := h.ienable
  pending := h.pending
  flags := h.flags

theorem SameSetup.inputs (h : s.SameSetup t) : s.SameInputs t :=
  ⟨h.inReset, h.stop, fun a => (h.ax a).sens, fun a => (h.ax a).flt⟩

namespace SameBase

theorem refl (s : State) : s.SameBase s := (SameSetup.refl s).base

theorem trans (h : s.SameBase t) (k : t.SameBase u) : s.SameBase u where
  limits a := ⟨(k.limits a).1.trans (h.limits a).1, (k.limits a).2.trans (h.limits a).2⟩
  config a := (k.config a).trans (h.config a)
  gates g := ⟨(k.gates g).1.trans (h.gates g).1, (k.gates g).2.trans (h.gates g).2⟩
  profs p := ⟨(k.profs p).1.trans (h.profs p).1, (k.profs p).2.1.trans (h.profs p).2.1, (k.profs p).2.2.trans (h.profs p).2.2⟩
  style := k.style.trans h.style
  block := k.block.trans h.block
  cres := k.cres.trans h.cres
  axsel := k.axsel.trans h.axsel
  snapshot := k.snapshot.trans h.snapshot
  ienable := k.ienable.trans h.ienable
  pending := k.pending.trans h.pending
  flags i hi := k.flags i (h.flags i hi)

theorem modAx (s : State) (a : Axis) (f : AxisState → AxisState)
    (same : (f (s.ax a)).limitMin = (s.ax a).limitMin ∧ (f (s.ax a)).limitMax = (s.ax a).limitMax ∧
      (f (s.ax a)).config = (s.ax a).config) : s.SameBase (s.modAx a f) :=
  { refl s with
    limits := fun b => by
      rw [ax_modAx]
      split
      · next e => subst e; exact ⟨same.1, same.2.1⟩
      · exact ⟨rfl, rfl⟩
    config := fun b => by
      rw [ax_modAx]
      split
      · next e => subst e; exact same.2.2
      · rfl }

theorem withSens (s : State) (a : Axis) (n : Nat) (f : FilteredInput) : s.SameBase (SameSetup.withSens s a n f) := by
  have choice : s.SameBase { s with choices := n } := { refl s with }
  exact choice.trans (modAx _ a (fun x => { x with sens := f }) ⟨rfl, rfl, rfl⟩)

theorem leadingEdge (s : State) (a : Axis) : s.SameBase (s.leadingEdge a) := by
  obtain ⟨n, f, -, h⟩ := SameSetup.leadingEdge s a
  exact (withSens s a n f).trans h.base

theorem acceptSens (s : State) (a : Axis) : s.SameBase (s.acceptSens a) := by
  have accepts := modAx s a (fun x => { x with sens := x.sens.accept }) ⟨rfl, rfl, rfl⟩
  unfold State.acceptSens
  dsimp only
  split
  · exact accepts.trans (leadingEdge _ a)
  · exact accepts.trans (SameSetup.trailingEdge _ a).base

theorem takeSens (s : State) (a : Axis) : s.SameBase (s.takeSens a) :=
  (acceptSens s a).trans (SameSetup.settle _).base

theorem ite {p : Prop} [Decidable p] (h : s.SameBase t) (k : s.SameBase u) : s.SameBase (if p then t else u) := by
  split <;> assumption

theorem sensPin (s : State) (a : Axis) (level : Level) : s.SameBase (s.sensPin a level) := by
  unfold State.sensPin
  split
  · exact refl s
  have left : s.SameBase (if (s.ax a).sens.leaves level (s.ax a).config.filter then s.takeSens a else s) :=
    ite (takeSens s a) (refl s)
  dsimp only
  generalize (if (s.ax a).sens.leaves level (s.ax a).config.filter then s.takeSens a else s) = u at left ⊢
  have set := modAx u a (fun x => { x with sens := x.sens.setPin level }) ⟨rfl, rfl, rfl⟩
  exact (left.trans set).trans (ite (takeSens _ a) (refl _))

theorem takeFlt (s : State) (a : Axis) : s.SameBase (s.takeFlt a) := by
  have accepts : s.SameBase (s.acceptFlt a) := modAx s a _ ⟨rfl, rfl, rfl⟩
  unfold State.takeFlt
  split
  · exact (accepts.trans (SameSetup.driveFault _ a _).base).trans (SameSetup.settle _).base
  · exact accepts

theorem fltPin (s : State) (a : Axis) (level : Level) : s.SameBase (s.fltPin a level) :=
  (ite (takeFlt s a) (refl s)).trans
    (modAx _ a (fun x => { x with drive := { x.drive with flt := x.drive.flt.setPin level } }) ⟨rfl, rfl, rfl⟩)

theorem of_stop (s : State) (f : FilteredInput) : s.SameBase { s with stop := f } := { refl s with }

theorem takeStop (s : State) : s.SameBase s.takeStop := by
  have accepts := of_stop s s.stop.accept
  unfold State.takeStop
  dsimp only
  split
  · exact ((accepts.trans (SameSetup.latch _ _).base).trans (SameSetup.stopAll _ _).base).trans (SameSetup.settle _).base
  · exact accepts

theorem stopPin (s : State) (level : Level) : s.SameBase (s.stopPin level) :=
  (ite (takeStop s) (refl s)).trans (of_stop _ _)

end SameBase

/-! ## What each command writes -/

/-- The commands and events that write a filtered input, and the resets. -/
def filtering : Instr → Bool
  | .sensPinChange _ _ | .leadingEdge _ | .trailingEdge _ | .fltPinChange _ _ | .fltAssertion _ | .fltDeassertion _
  | .stopPinChange _ | .stopAssertion | .stopDeassertion | .axconfig | .softreset | .hardwareReset | .resetRelease => true
  | _ => false

/-- What a command leaves of the setup, the port and the inputs. -/
structure Frame (c : Instr) (s t : State) : Prop where
  limits : c ≠ .limits → ∀ a, (t.ax a).limitMin = (s.ax a).limitMin ∧ (t.ax a).limitMax = (s.ax a).limitMax
  config : c ≠ .axconfig → ∀ a, (t.ax a).config = (s.ax a).config
  gates : c ≠ .gateset → c ≠ .gateclear →
    ∀ g, (t.gate g).members = (s.gate g).members ∧ (t.gate g).timeout = (s.gate g).timeout
  profs : c ≠ .profile → ∀ p, (t.prof p).start = (s.prof p).start ∧ (t.prof p).cruise = (s.prof p).cruise ∧
    (t.prof p).length = (s.prof p).length
  pending : t.pending = s.pending
  cres : (∀ v, c.busBytes ≠ some (offsetCMD, v)) → t.cres = s.cres
  port : (∀ o v, c ≠ .windowWrite o v) → t.ienable = s.ienable ∧ t.style = s.style ∧ t.axsel = s.axsel
  snapshot : c ≠ .axpos0Read → t.snapshot = s.snapshot
  flags : c ≠ .softreset → ∀ i : Fin 3, s.iflag.getLsbD i = true →
    t.iflag.getLsbD i = true ∨ ∃ v, c = .iflagWrite v ∧ v.getLsbD i = true
  block : (∀ o v, c ≠ .windowWrite o v) → c ≠ .axquery → c ≠ .profquery → c ≠ .gatequery → c ≠ .flush → t.block = s.block
  inputs : filtering c = false → s.SameInputs t

namespace Frame

variable {c : Instr}

theorem of_base (h : s.SameBase t) (inputs : filtering c = false → s.SameInputs t) : Frame c s t where
  limits _ := h.limits
  config _ := h.config
  gates _ _ := h.gates
  profs _ := h.profs
  pending := h.pending
  cres _ := h.cres
  port _ := ⟨h.ienable, h.style, h.axsel⟩
  snapshot _ := h.snapshot
  flags _ i hi := .inl (h.flags i hi)
  block _ _ _ _ _ := h.block
  inputs := inputs

theorem of_setup (h : s.SameSetup t) : Frame c s t := of_base h.base fun _ => h.inputs

theorem of_filtering (h : s.SameBase t) (f : filtering c = true) : Frame c s t :=
  of_base h fun no => by rw [f] at no; cases no

/-- A command written to CMD, whose effect follows its result. -/
theorem of_result {r : Result} {v : Byte} (bus : c.busBytes = some (offsetCMD, v)) (h : (s.result r).SameSetup t) :
    Frame c s t :=
  { of_setup (c := c) h with
    cres := fun no => absurd bus (no v)
    inputs := fun _ => ⟨h.inputs.1, h.inputs.2, h.inputs.3, h.inputs.4⟩ }

theorem result {r : Result} {v : Byte} (s : State) (bus : c.busBytes = some (offsetCMD, v)) : Frame c s (s.result r) :=
  of_result bus (.refl _)

theorem operating {f : State → State} (h : Frame c s (f s)) : Frame c s (s.operating f) := by
  unfold State.operating
  split
  · exact of_setup (.refl s)
  · exact h

theorem ite {p : Prop} [Decidable p] (h : Frame c s t) : Frame c s (if p then t else s) := by
  split
  · exact h
  · exact of_setup (.refl s)

end Frame

theorem SameSetup.timeoutAxis (s : State) (a : Axis) (g : GateTag) (set : AxisSet) : s.SameSetup (s.timeoutAxis a g set) :=
  (SameSetup.modAx s a _ ⟨rfl, rfl, rfl, rfl, rfl⟩).trans (.offerReport _ a _ _ _)

theorem SameSetup.expireGate (s : State) (g : GateTag) : s.SameSetup (s.expireGate g) := by
  unfold State.expireGate
  exact (SameSetup.modGate s g _ rfl rfl).trans (.forAxes (fun a u => .ite (timeoutAxis u a g _) (.refl u)) _)

theorem SameSetup.allocate (s : State) (m : Move) : s.SameSetup (s.allocate m) := by
  rw [allocate_eq]
  exact
    { SameSetup.refl s with
      members := fun g => by
        have := congrArg Gate.members (gate_allocate s m g)
        split at this <;> exact this
      timeout := fun g => by
        have := congrArg Gate.timeout (gate_allocate s m g)
        split at this <;> exact this
      start := fun p => by
        have := congrArg Profile.start (prof_allocate s m p)
        split at this <;> exact this
      cruise := fun p => by
        have := congrArg Profile.cruise (prof_allocate s m p)
        split at this <;> exact this
      length := fun p => by
        have := congrArg Profile.length (prof_allocate s m p)
        split at this <;> exact this }

/-- What is left of the setup where one result follows another. -/
theorem SameSetup.result (h : s.SameSetup t) (r : Result) : (s.result r).SameSetup (t.result r) :=
  { h with cres := rfl }

theorem SameSetup.foldRelease (l : List Move) (s : State) : s.SameSetup (l.foldl State.release s) := by
  induction l generalizing s with
  | nil => exact .refl s
  | cons m l ih => exact (SameSetup.release s m).trans (ih _)

end State
end Sys2Proof.Machine
end

section
/-! SUPPORT. The frame of every command but the hardware reset, and the statements that rest on it. -/

namespace Sys2Proof.Machine

namespace State

variable {s t u : State} {a : Axis} {c : Instr}

theorem SameSetup.acceptMove (s : State) (m : Move) : (s.result .ok).SameSetup (s.acceptMove m) := by
  have posted : (s.result .ok).SameSetup (s.posted m) :=
    ((SameSetup.allocate s m).trans (.modAx _ s.axsel _ ⟨rfl, rfl, rfl, rfl, rfl⟩)).result .ok
  rw [acceptMove_eq]
  exact .ite ((posted.trans (.takeNext _ _)).trans (.settle _)) posted

theorem frame_applyPost (s : State) : Frame .post s s.applyPost := by
  obtain ⟨r, e⟩ | ⟨m, -, e⟩ := applyPost_cases s <;> rw [e]
  · exact .result s rfl
  · exact .of_result rfl (.acceptMove s m)

theorem frame_applyAbort (s : State) : Frame .abort s s.applyAbort := by
  unfold State.applyAbort
  dsimp only
  split
  · exact .of_result rfl ((SameSetup.controlledStop _ _ _).trans (.settle _))
  · exact .of_result rfl ((SameSetup.controlledStop _ _ _).trans (.settle _))
  · exact .of_result rfl ((SameSetup.controlledStop _ _ _).trans (.settle _))
  · exact .of_result rfl (((SameSetup.withdraw _ _).trans (.endMove _ _ _ _)).trans (.settle _))
  · exact .of_result rfl ((SameSetup.endMove _ _ _ _).trans (.settle _))
  all_goals exact .result s rfl

theorem frame_applyResume (s : State) : Frame .resume s s.applyResume := by
  have resumes : (s.result .ok).SameSetup ((s.modAx s.axsel fun x => { x with cause := .none, held := none }).result .ok) :=
    (SameSetup.modAx s s.axsel _ ⟨rfl, rfl, rfl, rfl, rfl⟩).result .ok
  unfold State.applyResume
  dsimp only
  split
  · exact .result s rfl
  split
  · exact .result s rfl
  split
  · exact .result s rfl
  split
  · exact .of_result rfl ((resumes.trans (.take _ _ _)).trans (.settle _))
  · exact .of_result rfl ((resumes.trans (.takeNext _ _)).trans (.settle _))

/-- FLUSH leaves the setup, and of the parameter block all but PB0. -/
theorem flushed_eq (s : State) : s.flushed =
    { (((s.ax s.axsel).waitingMoves.foldl State.release s).modAx s.axsel fun x => { x with queue := [], held := none }) with
      block := s.block.set 0 (BitVec.ofNat 8 (s.ax s.axsel).waitingMoves.length), cres := .ok } := by
  unfold State.modAx
  rw [ax_foldl_release, foldl_release_eq]
  rfl

theorem frame_applyFlush (s : State) : Frame .flush s s.applyFlush := by
  by_cases disabled : (s.ax s.axsel).mode = .disabled
  · rw [applyFlush_of_disabled disabled]; exact .result s rfl
  · rw [applyFlush_of_enabled disabled, flushed_eq]
    have gives := (SameSetup.foldRelease (s.ax s.axsel).waitingMoves s).trans
      (.modAx _ s.axsel (fun x => { x with queue := [], held := none }) ⟨rfl, rfl, rfl, rfl, rfl⟩)
    exact
      { Frame.of_setup (c := .flush) gives with
        cres := fun no => absurd rfl (no 0x03)
        block := fun _ _ _ _ no => absurd rfl no
        inputs := fun _ => ⟨gives.inputs.1, gives.inputs.2, gives.inputs.3, gives.inputs.4⟩ }

theorem frame_applyLimits (s : State) : Frame .limits s s.applyLimits := by
  rw [applyLimits_eq]
  split
  · exact .result s rfl
  split
  · exact .result s rfl
  have same (b : Axis) :
      let y := (s.setAx s.axsel { s.ax s.axsel with limitMin := s.blockLimitMin, limitMax := s.blockLimitMax }).ax b
      y.config = (s.ax b).config ∧ y.sens = (s.ax b).sens ∧ y.drive.flt = (s.ax b).drive.flt := by
    dsimp only
    rw [ax_setAx]
    split
    · next e => subst e; exact ⟨rfl, rfl, rfl⟩
    · exact ⟨rfl, rfl, rfl⟩
  exact
    { Frame.result (c := .limits) (r := .ok) s rfl with
      limits := fun no => absurd rfl no
      config := fun _ b => (same b).1
      inputs := fun _ => ⟨rfl, rfl, fun b => (same b).2.1, fun b => (same b).2.2⟩ }

theorem frame_applySetpos (s : State) : Frame .setpos s s.applySetpos := by
  rw [applySetpos_eq]
  split
  · exact .result s rfl
  split
  · exact .result s rfl
  · exact .of_result rfl ((SameSetup.modAx s s.axsel (fun x => { x with position := s.blockPosition })
      ⟨rfl, rfl, rfl, rfl, rfl⟩).result .ok)

theorem ax_configured_limits (s : State) (b : Axis) :
    (s.configured.ax b).limitMin = (s.ax b).limitMin ∧ (s.configured.ax b).limitMax = (s.ax b).limitMax := by
  rw [ax_configured]
  split <;> exact ⟨rfl, rfl⟩

theorem frame_applyAxconfig (s : State) : Frame .axconfig s s.applyAxconfig := by
  obtain ⟨r, -, e⟩ | ⟨-, -, -, e⟩ := applyAxconfig_cases s <;> rw [e]
  · exact .result s rfl
  have examined : s.configured.SameSetup
      (if (s.ax s.axsel).mode = .disabled ∧ (configOfBlock s.block).enable then (s.configured.examine s.axsel).settle
        else s.configured) := .ite ((SameSetup.examine _ _).trans (.settle _)) (.refl _)
  have base := examined.base
  exact
    { limits := fun _ b =>
        ⟨(base.limits b).1.trans (ax_configured_limits s b).1, (base.limits b).2.trans (ax_configured_limits s b).2⟩
      config := fun no => absurd rfl no
      gates := fun _ _ => base.gates
      profs := fun _ => base.profs
      pending := base.pending
      cres := fun no => absurd rfl (no 0x07)
      port := fun _ => ⟨base.ienable, base.style, base.axsel⟩
      snapshot := fun _ => base.snapshot
      flags := fun _ i hi => .inl (base.flags i hi)
      block := fun _ _ _ _ _ => base.block
      inputs := fun no => by cases no }

theorem frame_write (s : State) (block : Vector Byte 16) (r : Result) {v : Byte} (bus : c.busBytes = some (offsetCMD, v))
    (query : c = .axquery ∨ c = .profquery ∨ c = .gatequery) : Frame c s ({ s with block := block }.result r) :=
  { Frame.result (c := c) (r := r) s bus with
    block := fun _ h k l _ => by tauto
    inputs := fun _ => ⟨rfl, rfl, fun _ => rfl, fun _ => rfl⟩ }

theorem frame_applyProfquery (s : State) : Frame .profquery s s.applyProfquery := by
  obtain ⟨r, -, e⟩ | ⟨block, e⟩ := applyProfquery_cases s <;> rw [e]
  · exact .result s rfl
  · exact frame_write s block _ rfl (by simp)

theorem frame_applyGatequery (s : State) : Frame .gatequery s s.applyGatequery := by
  obtain ⟨r, -, e⟩ | ⟨block, e⟩ := applyGatequery_cases s <;> rw [e]
  · exact .result s rfl
  · exact frame_write s block _ rfl (by simp)

theorem frame_applyProfile (s : State) : Frame .profile s s.applyProfile := by
  obtain ⟨r, e⟩ | ⟨p, -, -, e⟩ := applyProfile_cases s <;> rw [e]
  · exact .result s rfl
  · exact
      { Frame.result (c := .profile) (r := .ok) s rfl with
        profs := fun no => absurd rfl no
        inputs := fun _ => ⟨rfl, rfl, fun _ => rfl, fun _ => rfl⟩ }

/-- A gate's setup is written by two commands alone. -/
theorem frame_modGate (g : GateTag) (f : Gate → Gate) {v : Byte} (bus : c.busBytes = some (offsetCMD, v))
    (setup : c = .gateset ∨ c = .gateclear) : Frame c s ((s.modGate g f).result .ok) :=
  { Frame.result (c := c) (r := .ok) s bus with
    gates := fun h k => by tauto
    inputs := fun _ => ⟨rfl, rfl, fun _ => rfl, fun _ => rfl⟩ }

theorem frame_applyGateset (s : State) : Frame .gateset s s.applyGateset := by
  obtain ⟨r, e⟩ | ⟨g, -, e⟩ := applyGateset_cases s <;> rw [e]
  · exact .result s rfl
  · exact frame_modGate g _ rfl (.inl rfl)

theorem frame_applyGateclear (s : State) : Frame .gateclear s s.applyGateclear := by
  obtain ⟨r, e⟩ | ⟨g, -, e⟩ := applyGateclear_cases s <;> rw [e]
  · exact .result s rfl
  · exact frame_modGate g _ rfl (.inr rfl)

theorem frame_applyPop (s : State) : Frame .pop s s.applyPop := by
  unfold State.applyPop
  split
  · exact .result s rfl
  · next d rest _ =>
    have pops : (s.result .ok).SameSetup ({ s with reports := { s.reports with reports := rest, pointer := 0 } }.result .ok) :=
      { SameSetup.refl (s.result .ok) with }
    exact .of_result rfl (pops.trans (.settle _))

theorem SameSetup.examined (s : State) : s.softReset.SameSetup s.examined :=
  (SameSetup.ite (.latch _ _) (.refl _)).trans (.forAxes .examine _)

theorem frame_applySoftreset (s : State) : Frame .softreset s s.applySoftreset := by
  rw [applySoftreset_eq]
  have base := ((SameSetup.examined s).trans (.settle _)).base
  exact
    { limits := fun _ b => by
        have limits := base.limits b
        rw [ax_softReset] at limits
        exact limits
      config := fun _ b => by
        have config := base.config b
        rw [ax_softReset] at config
        exact config
      gates := fun _ _ g => by
        have gates := base.gates g
        rw [(softReset_items s .A g 0).2.1] at gates
        exact gates
      profs := fun _ p => by
        have profs := base.profs p
        rw [(softReset_items s .A 0 p).2.2] at profs
        exact profs
      pending := base.pending
      cres := fun no => absurd rfl (no 0x5A)
      port := fun _ => ⟨base.ienable, base.style, base.axsel⟩
      snapshot := fun _ => base.snapshot
      flags := fun no => absurd rfl no
      block := fun _ _ _ _ _ => base.block
      inputs := fun no => by cases no }

theorem frame_clearFlags (s : State) (v : Byte) : Frame (.iflagWrite v) s (s.clearFlags v) :=
  { Frame.of_setup (c := .iflagWrite v) (.refl s) with
    flags := fun _ i hi => by
      by_cases cleared : v.getLsbD i = true
      · exact .inr ⟨v, rfl, cleared⟩
      · refine .inl ?_
        simp only [State.clearFlags, BitVec.getLsbD_and, BitVec.getLsbD_not, hi]
        simp_all
    inputs := fun _ => ⟨rfl, rfl, fun _ => rfl, fun _ => rfl⟩ }

theorem frame_writeLocation (s : State) (o : Offset) (v : Byte) : Frame (.windowWrite o v) s (s.writeLocation o v) := by
  rw [writeLocation_eq]
  exact
    { Frame.of_setup (c := .windowWrite o v) (.refl s) with
      port := fun no => absurd rfl (no o v)
      block := fun no => absurd rfl (no o v)
      inputs := fun _ => ⟨rfl, rfl, fun _ => rfl, fun _ => rfl⟩ }

theorem base_releaseReset (s : State) : s.SameBase s.releaseReset :=
  { SameBase.refl s with
    limits := fun a => by rw [ax_releaseReset]; exact ⟨rfl, rfl⟩
    config := fun a => by rw [ax_releaseReset]; rfl }

theorem frame_takeSample (s : State) (a : Axis) (step dir : Level) :
    Frame (.readbackSample a step dir) s (s.takeSample a step dir) := by
  unfold State.takeSample
  split
  · exact .of_setup (.refl s)
  have read : s.SameSetup (s.modAx a fun x =>
      { x with drive := { x.drive with stepPin := step, dirPin := dir, sample := none } }) :=
    .modAx s a _ ⟨rfl, rfl, rfl, rfl, rfl⟩
  dsimp only
  split
  · exact .of_setup read
  · exact .of_setup ((read.trans (.driveFault _ a _)).trans (.settle _))

theorem endHigh_flt (d : DriveCheck) : d.endHigh.flt = d.flt := by unfold DriveCheck.endHigh; split <;> rfl

/-- What every command but the hardware reset leaves of the setup, the port and the inputs. -/
theorem frame_exec (h : exec c s = .next t) (not_reset : c ≠ .hardwareReset) : Frame c s t := by
  cases c with
  | hardwareReset => exact absurd rfl not_reset
  | post => cases h; exact .operating (frame_applyPost s)
  | abort => cases h; exact .operating (frame_applyAbort s)
  | flush => cases h; exact .operating (frame_applyFlush s)
  | resume => cases h; exact .operating (frame_applyResume s)
  | setpos => cases h; exact .operating (frame_applySetpos s)
  | limits => cases h; exact .operating (frame_applyLimits s)
  | axconfig => cases h; exact .operating (frame_applyAxconfig s)
  | axquery => cases h; exact .operating (frame_write s _ _ rfl (by simp))
  | profile => cases h; exact .operating (frame_applyProfile s)
  | profquery => cases h; exact .operating (frame_applyProfquery s)
  | gateset => cases h; exact .operating (frame_applyGateset s)
  | gateclear => cases h; exact .operating (frame_applyGateclear s)
  | gatequery => cases h; exact .operating (frame_applyGatequery s)
  | pop => cases h; exact .operating (frame_applyPop s)
  | haltall => cases h; exact .operating (.of_result rfl ((SameSetup.stopAll _ _).trans (.settle _)))
  | softreset => cases h; exact .operating (frame_applySoftreset s)
  | badCommand code =>
    simp only [exec, execBadCommand] at h
    split at h
    · cases h
    · cases h; exact .operating (.result s rfl)
  | axpos0Read =>
    cases h
    split <;> exact
      { Frame.of_setup (c := .axpos0Read) (.refl s) with
        snapshot := fun no => absurd rfl no
        inputs := fun _ => ⟨rfl, rfl, fun _ => rfl, fun _ => rfl⟩ }
  | rdataRead =>
    cases h
    split <;> exact
      { Frame.of_setup (c := .rdataRead) (.refl s) with inputs := fun _ => ⟨rfl, rfl, fun _ => rfl, fun _ => rfl⟩ }
  | iflagWrite value => cases h; exact .operating (frame_clearFlags s value)
  | windowWrite offset value =>
    simp only [exec, execWindowWrite] at h
    split at h
    · cases h
    · cases h; exact .operating (frame_writeLocation s offset value)
  | resetRelease => cases h; exact .ite (.of_filtering (base_releaseReset s) rfl)
  | stepPulse a => cases h; exact .operating (.ite (.of_setup ((SameSetup.pulse s a).trans (.settle _))))
  | stepHighTimeEnd a =>
    cases h
    exact .operating (.ite (.of_setup (.modAx s a _ ⟨rfl, rfl, rfl, rfl, endHigh_flt _⟩)))
  | readbackSample a step dir => cases h; exact .operating (frame_takeSample s a step dir)
  | dwellExpiry a => cases h; exact .operating (.ite (.of_setup ((SameSetup.endMove s a _ _).trans (.settle _))))
  | gateTimerExpiry g => cases h; exact .operating (.ite (.of_setup ((SameSetup.expireGate s g).trans (.settle _))))
  | gateFire g => cases h; exact .operating (.ite (.of_setup ((SameSetup.fireGate s g).trans (.settle _))))
  | placeGranted => cases h; exact .operating (.of_setup (.settle s))
  | sensPinChange a level =>
    cases h
    split
    · exact .of_filtering (.modAx s a _ ⟨rfl, rfl, rfl⟩) rfl
    · exact .of_filtering (.sensPin s a level) rfl
  | leadingEdge a => cases h; exact .operating (.ite (.of_filtering (.takeSens s a) rfl))
  | trailingEdge a => cases h; exact .operating (.ite (.of_filtering (.takeSens s a) rfl))
  | fltPinChange a level =>
    cases h
    split
    · exact .of_filtering (.modAx s a _ ⟨rfl, rfl, rfl⟩) rfl
    · exact .of_filtering (.fltPin s a level) rfl
  | fltAssertion a => cases h; exact .operating (.ite (.of_filtering (.takeFlt s a) rfl))
  | fltDeassertion a => cases h; exact .operating (.ite (.of_filtering (.takeFlt s a) rfl))
  | stopPinChange level =>
    cases h
    split
    · exact .of_filtering (.of_stop s _) rfl
    · exact .of_filtering (.stopPin s level) rfl
  | stopAssertion => cases h; exact .operating (.ite (.of_filtering (.takeStop s) rfl))
  | stopDeassertion => cases h; exact .operating (.ite (.of_filtering (.takeStop s) rfl))

end State
end Sys2Proof.Machine
end

section
/-! SUPPORT. The filtered inputs: what each command does to the three filters, and the statements about setup, port and inputs. -/

namespace Sys2Proof.Machine

/-! ## One filter (R88) -/

/-- No count runs, and the pin shows the qualified level. -/
structure FilteredInput.Settled (f : FilteredInput) : Prop where
  count : f.count = none
  pin : f.pin = f.qualified

theorem FilteredInput.Settled.counted {f : FilteredInput} (h : f.Settled) : f.counted = true := by
  simp [FilteredInput.counted, h.count, h.pin]

theorem FilteredInput.settled_accept (f : FilteredInput) : f.accept.Settled := ⟨rfl, rfl⟩

theorem FilteredInput.counted_restart (f : FilteredInput) : f.restart.counted = true := by
  by_cases same : f.pin = f.qualified <;> simp [FilteredInput.restart, FilteredInput.counted, same]

theorem FilteredInput.counted_compare (f : FilteredInput) (time : Nat) : (f.compare time).counted = true := by
  unfold FilteredInput.compare
  dsimp only
  split
  · exact (settled_accept _).counted
  · exact counted_restart f

theorem FilteredInput.counted_setPin {f : FilteredInput} (h : f.counted = true) (level : Level) :
    (f.setPin level).counted = true := by
  unfold FilteredInput.setPin
  split
  · exact h
  · by_cases same : level = f.qualified <;> simp [FilteredInput.counted, same]

theorem FilteredInput.counted_tick (f : FilteredInput) : f.tick.counted = f.counted := by
  cases h : f.count <;> simp [FilteredInput.counted, FilteredInput.tick, h]

theorem FilteredInput.qualified_setPin (f : FilteredInput) (level : Level) : (f.setPin level).qualified = f.qualified := by
  unfold FilteredInput.setPin
  split <;> rfl

namespace State

variable {s t u : State} {a : Axis} {c : Instr}

/-! ## The SENS input of one axis -/

/-- The SENS input of one axis settles on a level, or stays; the other inputs stay. -/
structure SettlesSens (a : Axis) (s t : State) : Prop where
  reset : t.inReset = s.inReset
  stop : t.stop = s.stop
  others : ∀ b, b ≠ a → (t.ax b).sens = (s.ax b).sens
  flt : ∀ b, (t.ax b).drive.flt = (s.ax b).drive.flt
  self : (t.ax a).sens = (s.ax a).sens ∨ (t.ax a).sens.Settled

namespace SettlesSens

theorem of_inputs (h : s.SameInputs t) (a : Axis) : s.SettlesSens a t :=
  ⟨h.reset, h.stop, fun b _ => h.sens b, h.flt, .inl (h.sens a)⟩

theorem of_setup (h : s.SameSetup t) (a : Axis) : s.SettlesSens a t := of_inputs h.inputs a

theorem trans (h : s.SettlesSens a t) (k : t.SettlesSens a u) : s.SettlesSens a u where
  reset := k.reset.trans h.reset
  stop := k.stop.trans h.stop
  others b hb := (k.others b hb).trans (h.others b hb)
  flt b := (k.flt b).trans (h.flt b)
  self := k.self.elim (fun same => h.self.imp (same.trans ·) fun settled => same ▸ settled) .inr

/-- The SENS input of an axis settles. -/
theorem modAx (s : State) (a : Axis) (f : AxisState → AxisState) (h : (f (s.ax a)).sens.Settled)
    (flt : (f (s.ax a)).drive.flt = (s.ax a).drive.flt) : s.SettlesSens a (s.modAx a f) :=
  ⟨rfl, rfl, fun b hb => by rw [ax_modAx_of_ne s hb], fun b => by
    rw [ax_modAx]
    split
    · next e => subst e; exact flt
    · rfl, .inr (by rw [ax_modAx_self]; exact h)⟩

theorem passMark (s : State) (a : Axis) : s.SettlesSens a (s.passMark a) := by
  have choice : s.SettlesSens a { s with choices := s.choices + 1 } := ⟨rfl, rfl, fun _ _ => rfl, fun _ => rfl, .inl rfl⟩
  unfold State.passMark
  split
  · dsimp only
    split
    · exact choice.trans ((modAx _ a _ ⟨rfl, rfl⟩ rfl).trans (of_setup (SameSetup.trailingEdge _ a) a))
    · exact choice
  · exact of_setup (.refl s) a

theorem leadingEdge (s : State) (a : Axis) : s.SettlesSens a (s.leadingEdge a) := by
  have mark (part : MarkPart) : s.SettlesSens a
      (if (s.ax a).mark.window = .opened then
        let s := s.modAx a fun x =>
          { x with
            mark := { x.mark with window := .found, position := some x.position, width := .counting, widthCount := 0 } }
        match part.stopDistance with
        | none => s
        | some d => (if s.replansAtOnce a d then s.passMark a else s).register a d
      else s) := by
    split
    · refine trans (of_setup (.modAx s a (fun x => { x with
        mark := { x.mark with window := .found, position := some x.position, width := .counting, widthCount := 0 } })
        ⟨rfl, rfl, rfl, rfl, rfl⟩) a) ?_
      dsimp only
      split
      · exact of_setup (.refl _) a
      · refine trans ?_ (of_setup (.register _ a _) a)
        split
        · exact passMark _ a
        · exact of_setup (.refl _) a
    · exact of_setup (.refl s) a
  unfold State.leadingEdge
  dsimp only
  split
  · split
    · split
      · exact of_setup ((SameSetup.modAx s a _ ⟨rfl, rfl, rfl, rfl, rfl⟩).trans (.controlledStop _ a _)) a
      · exact of_setup (.refl s) a
    · exact mark _
    · exact mark _
    all_goals exact of_setup (.refl s) a
  · exact of_setup (.refl s) a

theorem takeSens (s : State) (a : Axis) : s.SettlesSens a (s.takeSens a) := by
  refine trans ?_ (of_setup (.settle _) a)
  unfold State.acceptSens
  dsimp only
  refine trans (modAx s a (fun x => { x with sens := x.sens.accept }) (FilteredInput.settled_accept _) rfl) ?_
  split
  · exact leadingEdge _ a
  · exact of_setup (.trailingEdge _ a) a

end SettlesSens

/-! ## The /FLT input of one axis, and /STOP -/

theorem flt_takeFlt (s : State) (a b : Axis) :
    ((s.takeFlt a).ax b).drive.flt = if b = a then (s.ax b).drive.flt.accept else (s.ax b).drive.flt := by
  have accepts : ((s.acceptFlt a).ax b).drive.flt = if b = a then (s.ax b).drive.flt.accept else (s.ax b).drive.flt := by
    rw [State.acceptFlt, ax_modAx]
    split
    · next e => rw [e]
    · rfl
  rw [← accepts]
  unfold State.takeFlt
  split
  · exact (((SameSetup.driveFault _ a _).trans (.settle _)).ax b).flt
  · rfl

theorem inputs_takeFlt (s : State) (a : Axis) :
    (s.takeFlt a).inReset = s.inReset ∧ (s.takeFlt a).stop = s.stop ∧ ∀ b, ((s.takeFlt a).ax b).sens = (s.ax b).sens := by
  have accepts : (s.acceptFlt a).inReset = s.inReset ∧ (s.acceptFlt a).stop = s.stop ∧
      ∀ b, ((s.acceptFlt a).ax b).sens = (s.ax b).sens := ⟨rfl, rfl, fun b => by
    rw [State.acceptFlt, ax_modAx]
    split
    · next e => rw [e]
    · rfl⟩
  unfold State.takeFlt
  split
  · have same := ((SameSetup.driveFault (s.acceptFlt a) a .driverInput).trans (.settle _)).inputs
    exact ⟨same.reset.trans accepts.1, same.stop.trans accepts.2.1, fun b => (same.sens b).trans (accepts.2.2 b)⟩
  · exact accepts

theorem inputs_takeStop (s : State) : s.takeStop.stop = s.stop.accept ∧ s.takeStop.inReset = s.inReset ∧
    ∀ b, (s.takeStop.ax b).sens = (s.ax b).sens ∧ (s.takeStop.ax b).drive.flt = (s.ax b).drive.flt := by
  have accepts : { s with stop := s.stop.accept }.SameInputs s.takeStop := by
    unfold State.takeStop
    dsimp only
    split
    · exact (((SameSetup.latch _ _).trans (.stopAll _ _)).trans (.settle _)).inputs
    · exact (SameSetup.refl _).inputs
  exact ⟨accepts.stop, accepts.reset, fun b => ⟨accepts.sens b, accepts.flt b⟩⟩

/-! ## Filter counts (R88, R114, R137, R166) -/

theorem filtersCounted_iff (h : s.inReset = false) : s.FiltersCounted ↔
    s.stop.counted = true ∧ ∀ a, (s.ax a).sens.counted = true ∧ (s.ax a).drive.flt.counted = true := by
  rw [State.FiltersCounted, if_neg (by simp [h])]
  exact ⟨fun ⟨stop, axes⟩ => ⟨stop, fun a => axes a (Axis.mem_all a)⟩, fun ⟨stop, axes⟩ => ⟨stop, fun a _ => axes a⟩⟩

theorem filtersCounted_of_inReset_iff (h : s.inReset = true) : s.FiltersCounted ↔
    s.stop.count = none ∧ ∀ a, (s.ax a).sens.count = none ∧ (s.ax a).drive.flt.count = none := by
  rw [State.FiltersCounted, if_pos h]
  exact ⟨fun ⟨stop, axes⟩ => ⟨stop, fun a => axes a (Axis.mem_all a)⟩, fun ⟨stop, axes⟩ => ⟨stop, fun a _ => axes a⟩⟩

/-- The counts carry over. -/
structure Counts (s t : State) : Prop where
  keeps : s.FiltersCounted → t.FiltersCounted

theorem Counts.refl (s : State) : s.Counts s := ⟨id⟩

theorem Counts.trans (h : s.Counts t) (k : t.Counts u) : s.Counts u := ⟨k.keeps ∘ h.keeps⟩

theorem SameInputs.counts (h : s.SameInputs t) : s.Counts t := by
  refine ⟨fun k => ?_⟩
  simp only [State.FiltersCounted, h.reset, h.stop, h.sens, h.flt]
  exact k

theorem SameSetup.counts (h : s.SameSetup t) : s.Counts t := h.inputs.counts

theorem SettlesSens.counts (h : s.SettlesSens a t) (operating : s.inReset = false) : s.Counts t := by
  refine ⟨fun k => ?_⟩
  rw [filtersCounted_iff operating] at k
  rw [filtersCounted_iff (h.reset.trans operating), h.stop]
  refine ⟨k.1, fun b => ⟨?_, by rw [h.flt]; exact (k.2 b).2⟩⟩
  by_cases e : b = a
  · subst e
    exact h.self.elim (fun same => same ▸ (k.2 b).1) FilteredInput.Settled.counted
  · rw [h.others b e]; exact (k.2 b).1

theorem counts_sensPin (operating : s.inReset = false) (a : Axis) (level : Level) : s.Counts (s.sensPin a level) := by
  unfold State.sensPin
  split
  · exact .refl s
  have left : s.inReset = (if (s.ax a).sens.leaves level (s.ax a).config.filter then s.takeSens a else s).inReset ∧
      s.Counts (if (s.ax a).sens.leaves level (s.ax a).config.filter then s.takeSens a else s) := by
    split
    · exact ⟨(SettlesSens.takeSens s a).reset.symm, (SettlesSens.takeSens s a).counts operating⟩
    · exact ⟨rfl, .refl s⟩
  dsimp only
  generalize (if (s.ax a).sens.leaves level (s.ax a).config.filter then s.takeSens a else s) = u at left ⊢
  have running : u.inReset = false := left.1 ▸ operating
  have set : u.Counts (u.modAx a fun x => { x with sens := x.sens.setPin level }) := by
    refine ⟨fun k => ?_⟩
    rw [filtersCounted_iff running] at k
    refine (filtersCounted_iff (by exact running)).2 ⟨k.1, fun b => ?_⟩
    rw [ax_modAx]
    split
    · next e => subst e; exact ⟨FilteredInput.counted_setPin (k.2 b).1 level, (k.2 b).2⟩
    · exact k.2 b
  have all := left.2.trans set
  split
  · exact all.trans ((SettlesSens.takeSens _ a).counts running)
  · exact all

theorem counts_takeFlt (operating : s.inReset = false) (a : Axis) : s.Counts (s.takeFlt a) := by
  refine ⟨fun k => ?_⟩
  obtain ⟨reset, stop, sens⟩ := inputs_takeFlt s a
  rw [filtersCounted_iff operating] at k
  rw [filtersCounted_iff (reset.trans operating), stop]
  refine ⟨k.1, fun b => ⟨by rw [sens]; exact (k.2 b).1, ?_⟩⟩
  rw [flt_takeFlt]
  split
  · exact (FilteredInput.settled_accept _).counted
  · exact (k.2 b).2

theorem counts_fltPin (operating : s.inReset = false) (a : Axis) (level : Level) : s.Counts (s.fltPin a level) := by
  have left : s.inReset = (if (s.ax a).drive.flt.leaves level Config.lineFilter then s.takeFlt a else s).inReset ∧
      s.Counts (if (s.ax a).drive.flt.leaves level Config.lineFilter then s.takeFlt a else s) := by
    split
    · exact ⟨(inputs_takeFlt s a).1.symm, counts_takeFlt operating a⟩
    · exact ⟨rfl, .refl s⟩
  unfold State.fltPin
  dsimp only
  generalize (if (s.ax a).drive.flt.leaves level Config.lineFilter then s.takeFlt a else s) = u at left ⊢
  have running : u.inReset = false := left.1 ▸ operating
  refine ⟨fun k => ?_⟩
  have k := left.2.keeps k
  rw [filtersCounted_iff running] at k
  refine (filtersCounted_iff (by exact running)).2 ⟨k.1, fun b => ?_⟩
  rw [ax_modAx]
  split
  · next e => subst e; exact ⟨(k.2 b).1, FilteredInput.counted_setPin (k.2 b).2 level⟩
  · exact k.2 b

theorem counts_takeStop (operating : s.inReset = false) : s.Counts s.takeStop := by
  refine ⟨fun k => ?_⟩
  obtain ⟨stop, reset, axes⟩ := inputs_takeStop s
  rw [filtersCounted_iff operating] at k
  rw [filtersCounted_iff (reset.trans operating), stop]
  exact ⟨(FilteredInput.settled_accept _).counted, fun b => by rw [(axes b).1, (axes b).2]; exact k.2 b⟩

theorem counts_stopPin (operating : s.inReset = false) (level : Level) : s.Counts (s.stopPin level) := by
  have left : s.inReset = (if s.stop.leaves level Config.lineFilter then s.takeStop else s).inReset ∧
      s.Counts (if s.stop.leaves level Config.lineFilter then s.takeStop else s) := by
    split
    · exact ⟨(inputs_takeStop s).2.1.symm, counts_takeStop operating⟩
    · exact ⟨rfl, .refl s⟩
  unfold State.stopPin
  dsimp only
  generalize (if s.stop.leaves level Config.lineFilter then s.takeStop else s) = u at left ⊢
  have running : u.inReset = false := left.1 ▸ operating
  refine ⟨fun k => ?_⟩
  have k := left.2.keeps k
  rw [filtersCounted_iff running] at k
  exact (filtersCounted_iff (by exact running)).2 ⟨FilteredInput.counted_setPin k.1 level, k.2⟩

/-- AXCONFIG compares a running count with its new filter time (R90). -/
theorem counts_applyAxconfig (operating : s.inReset = false) : s.Counts s.applyAxconfig := by
  obtain ⟨r, -, e⟩ | ⟨-, -, -, e⟩ := applyAxconfig_cases s <;> rw [e]
  · exact (SameInputs.counts ⟨rfl, rfl, fun _ => rfl, fun _ => rfl⟩)
  have examined : s.configured.SameSetup
      (if (s.ax s.axsel).mode = .disabled ∧ (configOfBlock s.block).enable then (s.configured.examine s.axsel).settle
        else s.configured) := .ite ((SameSetup.examine _ _).trans (.settle _)) (.refl _)
  refine ⟨fun k => ?_⟩
  refine examined.counts.keeps ?_
  rw [filtersCounted_iff operating] at k
  refine (filtersCounted_iff (by exact operating)).2 ⟨k.1, fun b => ?_⟩
  rw [ax_configured]
  split
  · refine ⟨?_, (k.2 b).2⟩
    unfold AxisState.configure
    dsimp only
    split
    · exact (FilteredInput.settled_accept _).counted
    · exact (k.2 b).1
  · exact k.2 b

theorem counts_softReset (operating : s.inReset = false) : s.Counts s.softReset := by
  refine ⟨fun k => ?_⟩
  rw [filtersCounted_iff operating] at k
  refine (filtersCounted_iff (by exact operating)).2 ⟨k.1, fun b => ?_⟩
  rw [ax_softReset]
  exact ⟨FilteredInput.counted_compare _ _, (k.2 b).2⟩

theorem counts_applySoftreset (operating : s.inReset = false) : s.Counts s.applySoftreset := by
  rw [applySoftreset_eq]
  exact (counts_softReset operating).trans ((SameSetup.examined s).trans (.settle _)).counts

theorem counts_hardReset (s : State) : s.Counts s.hardReset := by
  refine ⟨fun _ => (filtersCounted_of_inReset_iff rfl).2 ?_⟩
  exact ⟨rfl, fun a => by rw [ax_hardReset]; exact ⟨rfl, rfl⟩⟩

theorem counts_releaseReset (s : State) : s.Counts s.releaseReset := by
  refine ⟨fun _ => (filtersCounted_iff rfl).2 ?_⟩
  exact ⟨FilteredInput.counted_restart _, fun a => by
    rw [ax_releaseReset]; exact ⟨FilteredInput.counted_restart _, FilteredInput.counted_restart _⟩⟩

/-- A pin change while /RESET is held low starts no count. -/
theorem counts_held_modAx (held : s.inReset = true) (a : Axis) (f : AxisState → AxisState)
    (same : (f (s.ax a)).sens.count = (s.ax a).sens.count ∧ (f (s.ax a)).drive.flt.count = (s.ax a).drive.flt.count) :
    s.Counts (s.modAx a f) := by
  refine ⟨fun k => ?_⟩
  rw [filtersCounted_of_inReset_iff held] at k
  refine (filtersCounted_of_inReset_iff (by exact held)).2 ⟨k.1, fun b => ?_⟩
  rw [ax_modAx]
  split
  · next e => subst e; rw [same.1, same.2]; exact k.2 b
  · exact k.2 b

theorem counts_operating {f : State → State} (h : s.inReset = false → s.Counts (f s)) : s.Counts (s.operating f) := by
  unfold State.operating
  split
  · exact .refl s
  · next running => exact h (by simpa using running)

theorem counts_if {p : Prop} [Decidable p] (h : s.Counts t) : s.Counts (if p then t else s) := by
  split
  · exact h
  · exact .refl s

theorem counts_exec (h : exec c s = .next t) : s.Counts t := by
  cases f : filtering c with
  | false =>
    have not_reset : c ≠ .hardwareReset := fun e => by rw [e] at f; cases f
    exact ((frame_exec h not_reset).inputs f).counts
  | true =>
    cases c with
    | sensPinChange a level =>
      cases h
      split
      · next held => exact counts_held_modAx held a _ ⟨rfl, rfl⟩
      · next running => exact counts_sensPin (by simpa using running) a level
    | leadingEdge a => cases h; exact counts_operating fun running => counts_if ((SettlesSens.takeSens s a).counts running)
    | trailingEdge a => cases h; exact counts_operating fun running => counts_if ((SettlesSens.takeSens s a).counts running)
    | fltPinChange a level =>
      cases h
      split
      · next held => exact counts_held_modAx held a _ ⟨rfl, rfl⟩
      · next running => exact counts_fltPin (by simpa using running) a level
    | fltAssertion a => cases h; exact counts_operating fun running => counts_if (counts_takeFlt running a)
    | fltDeassertion a => cases h; exact counts_operating fun running => counts_if (counts_takeFlt running a)
    | stopPinChange level =>
      cases h
      split
      · next held =>
        refine ⟨fun k => ?_⟩
        rw [filtersCounted_of_inReset_iff held] at k
        exact (filtersCounted_of_inReset_iff (s := { s with stop := { s.stop with pin := level } }) held).2 k
      · next running => exact counts_stopPin (by simpa using running) level
    | stopAssertion => cases h; exact counts_operating fun running => counts_if (counts_takeStop running)
    | stopDeassertion => cases h; exact counts_operating fun running => counts_if (counts_takeStop running)
    | axconfig => cases h; exact counts_operating (f := State.applyAxconfig) counts_applyAxconfig
    | softreset => cases h; exact counts_operating (f := State.applySoftreset) counts_applySoftreset
    | hardwareReset => cases h; exact counts_hardReset s
    | resetRelease => cases h; exact counts_if (counts_releaseReset s)
    | _ => cases f

/-- 1 µs passes on the counts that run. -/
theorem counts_tick (s : State) : s.Counts s.tick := by
  cases held : s.inReset with
  | true => rw [tick_of_inReset s held]; exact .refl s
  | false =>
    have reset : s.tick.inReset = false := by simp [State.tick, held]
    have stop : s.tick.stop = s.stop.tick := by simp [State.tick, held]
    refine ⟨fun k => ?_⟩
    rw [filtersCounted_iff held] at k
    rw [filtersCounted_iff reset, stop, FilteredInput.counted_tick]
    refine ⟨k.1, fun a => ?_⟩
    rw [ax_tick s a held]
    exact ⟨(FilteredInput.counted_tick _).trans (k.2 a).1, (FilteredInput.counted_tick _).trans (k.2 a).2⟩

end State

/-! ## The statements -/

/-- Settles O17: a count begins where the pin leaves the qualified level, and ends where the two agree again. -/
theorem filterCountsKept : Obligations.FilterCountsKept := fun _ _ hs h =>
  step_keeps (P := State.FiltersCounted) (fun _ _ => (State.SameInputs.counts ⟨rfl, rfl, fun _ => rfl, fun _ => rfl⟩).keeps)
    (fun _ _ => (State.SameInputs.counts ⟨rfl, rfl, fun _ => rfl, fun _ => rfl⟩).keeps)
    (fun _ _ _ k e => (State.counts_exec e).keeps k) (fun s => (State.counts_tick s).keeps) hs h

end Sys2Proof.Machine
end

section
/-! SUPPORT. Which commands move a qualified level, and the statements about the setup, the port and DISABLED. -/

namespace Sys2Proof.Machine

namespace State

variable {s t u : State} {a : Axis} {c : Instr}

/-- An item of an axis that an update of one axis does not write. -/
theorem item_modAx {β : Type} (item : AxisState → β) {f : AxisState → AxisState} (same : item (f (s.ax a)) = item (s.ax a))
    (b : Axis) : item ((s.modAx a f).ax b) = item (s.ax b) := by
  rw [ax_modAx]
  split
  · next e => rw [e]; exact same
  · rfl

/-! ## Qualified levels (R88, R90, R114, R137) -/

/-- A qualified level moves only at the commands and events that can accept one. -/
structure Qualifies (c : Instr) (s t : State) : Prop where
  stop : t.stop.qualified = s.stop.qualified ∨ c = .stopAssertion ∨ c = .stopDeassertion ∨
    (∃ l, c = .stopPinChange l ∧ l ≠ s.stop.pin) ∧ ∃ us, s.stop.count = some us ∧ 10 ≤ us
  flt : ∀ a, (t.ax a).drive.flt.qualified = (s.ax a).drive.flt.qualified ∨ c = .fltAssertion a ∨ c = .fltDeassertion a ∨
    (∃ l, c = .fltPinChange a l ∧ l ≠ (s.ax a).drive.flt.pin) ∧ ∃ us, (s.ax a).drive.flt.count = some us ∧ 10 ≤ us
  sens : ∀ a, (t.ax a).sens.qualified = (s.ax a).sens.qualified ∨ c = .leadingEdge a ∨ c = .trailingEdge a ∨
    (∃ l, c = .sensPinChange a l ∧ l ≠ (s.ax a).sens.pin) ∧
      ((s.ax a).config.filter = 0 ∨ ∃ us, (s.ax a).sens.count = some us ∧ (s.ax a).config.filter ≤ us) ∨
    (c = .axconfig ∧ s.axsel = a ∧ ∃ us, (s.ax a).sens.count = some us ∧ (t.ax a).config.filter ≤ us) ∨ c = .softreset

namespace Qualifies

/-- No qualified level moves. -/
theorem of_same (stop : t.stop.qualified = s.stop.qualified)
    (flt : ∀ a, (t.ax a).drive.flt.qualified = (s.ax a).drive.flt.qualified)
    (sens : ∀ a, (t.ax a).sens.qualified = (s.ax a).sens.qualified) : Qualifies c s t :=
  ⟨.inl stop, fun a => .inl (flt a), fun a => .inl (sens a)⟩

theorem of_inputs (h : s.SameInputs t) : Qualifies c s t :=
  of_same (by rw [h.stop]) (fun a => by rw [h.flt]) fun a => by rw [h.sens]

theorem operating {f : State → State} (h : Qualifies c s (f s)) : Qualifies c s (s.operating f) := by
  unfold State.operating
  split
  · exact of_inputs (SameSetup.refl s).inputs
  · exact h

theorem ite {p : Prop} [Decidable p] (h : Qualifies c s t) : Qualifies c s (if p then t else s) := by
  split
  · exact h
  · exact of_inputs (SameSetup.refl s).inputs

/-- An edge of SENS. -/
theorem of_settlesSens (h : s.SettlesSens a t) (edge : c = .leadingEdge a ∨ c = .trailingEdge a) : Qualifies c s t where
  stop := .inl (by rw [h.stop])
  flt b := .inl (by rw [h.flt])
  sens b := by
    by_cases e : b = a
    · subst e; exact .inr (edge.elim .inl fun edge => .inr (.inl edge))
    · exact .inl (by rw [h.others b e])

end Qualifies

/-- A change of the SENS pin reaches no other input. -/
theorem sensPin_cases (s : State) (a : Axis) (level : Level) :
    s.sensPin a level = s ∨ level ≠ (s.ax a).sens.pin ∧
      ((s.ax a).config.filter = 0 ∨ (s.ax a).sens.leaves level (s.ax a).config.filter = true) ∨
    s.sensPin a level = s.modAx a fun x => { x with sens := x.sens.setPin level } := by
  by_cases same : level = (s.ax a).sens.pin
  · exact .inl (if_pos same)
  by_cases leaves : (s.ax a).sens.leaves level (s.ax a).config.filter = true
  · exact .inr (.inl ⟨same, .inr leaves⟩)
  by_cases unfiltered : (s.ax a).config.filter = 0
  · exact .inr (.inl ⟨same, .inl unfiltered⟩)
  · refine .inr (.inr ?_)
    have filtered : ((s.modAx a fun x => { x with sens := x.sens.setPin level }).ax a).config.filter ≠ 0 := by
      rw [ax_modAx_self]; exact unfiltered
    unfold State.sensPin
    dsimp only
    rw [if_neg same, if_neg leaves, if_neg fun h => filtered h.2]

/-- What a change of the SENS pin leaves of the other inputs. -/
theorem inputs_sensPin (s : State) (a : Axis) (level : Level) :
    (s.sensPin a level).stop = s.stop ∧ (∀ b, ((s.sensPin a level).ax b).drive.flt = (s.ax b).drive.flt) ∧
      ∀ b, b ≠ a → ((s.sensPin a level).ax b).sens = (s.ax b).sens := by
  have takes (u : State) := SettlesSens.takeSens u a
  have sets (u : State) : (u.modAx a fun x => { x with sens := x.sens.setPin level }).stop = u.stop ∧
      (∀ b, ((u.modAx a fun x => { x with sens := x.sens.setPin level }).ax b).drive.flt = (u.ax b).drive.flt) ∧
      ∀ b, b ≠ a → ((u.modAx a fun x => { x with sens := x.sens.setPin level }).ax b).sens = (u.ax b).sens := by
    exact ⟨rfl, item_modAx (·.drive.flt) rfl, fun b ne => by rw [ax_modAx_of_ne u ne]⟩
  unfold State.sensPin
  split
  · exact ⟨rfl, fun _ => rfl, fun _ _ => rfl⟩
  dsimp only
  have left : ∀ u, u = (if (s.ax a).sens.leaves level (s.ax a).config.filter then s.takeSens a else s) →
      u.stop = s.stop ∧ (∀ b, (u.ax b).drive.flt = (s.ax b).drive.flt) ∧ ∀ b, b ≠ a → (u.ax b).sens = (s.ax b).sens := by
    rintro u rfl
    split
    · exact ⟨(takes s).stop, (takes s).flt, (takes s).others⟩
    · exact ⟨rfl, fun _ => rfl, fun _ _ => rfl⟩
  have left := left _ rfl
  generalize (if (s.ax a).sens.leaves level (s.ax a).config.filter then s.takeSens a else s) = u at left ⊢
  have set : (u.modAx a fun x => { x with sens := x.sens.setPin level }).stop = s.stop ∧
      (∀ b, ((u.modAx a fun x => { x with sens := x.sens.setPin level }).ax b).drive.flt = (s.ax b).drive.flt) ∧
      ∀ b, b ≠ a → ((u.modAx a fun x => { x with sens := x.sens.setPin level }).ax b).sens = (s.ax b).sens :=
    ⟨left.1, fun b => ((sets u).2.1 b).trans (left.2.1 b), fun b ne => ((sets u).2.2 b ne).trans (left.2.2 b ne)⟩
  generalize (u.modAx a fun x => { x with sens := x.sens.setPin level }) = v at set ⊢
  split
  · have take := takes v
    exact ⟨take.stop.trans set.1, fun b => (take.flt b).trans (set.2.1 b), fun b ne => (take.others b ne).trans (set.2.2 b ne)⟩
  · exact set

theorem qualifies_sensPin (s : State) (a : Axis) (level : Level) : Qualifies (.sensPinChange a level) s (s.sensPin a level) := by
  obtain ⟨stop, flt, others⟩ := inputs_sensPin s a level
  refine ⟨.inl (by rw [stop]), fun b => .inl (by rw [flt]), fun b => ?_⟩
  by_cases e : b = a
  · subst e
    obtain same | ⟨change, accepts⟩ | sets := sensPin_cases s b level
    · exact .inl (by rw [same])
    · refine .inr (.inr (.inr (.inl ⟨⟨level, rfl, change⟩, accepts.imp_right fun leaves => ?_⟩)))
      exact ((leaves_iff _ _ _).1 leaves).2
    · exact .inl (by rw [sets, ax_modAx_self]; exact FilteredInput.qualified_setPin _ _)
  · exact .inl (by rw [others b e])

theorem qualifies_fltPin (s : State) (a : Axis) (level : Level) : Qualifies (.fltPinChange a level) s (s.fltPin a level) := by
  unfold State.fltPin
  dsimp only
  have sets (u : State) (b : Axis) :
      ((u.modAx a fun x => { x with drive := { x.drive with flt := x.drive.flt.setPin level } }).ax b).sens = (u.ax b).sens ∧
      ((u.modAx a fun x => { x with drive := { x.drive with flt := x.drive.flt.setPin level } }).ax b).drive.flt.qualified =
        (u.ax b).drive.flt.qualified :=
    ⟨item_modAx (·.sens) rfl b, item_modAx (·.drive.flt.qualified) (FilteredInput.qualified_setPin _ _) b⟩
  split
  · next leaves =>
    obtain ⟨change, due⟩ := (leaves_iff _ _ _).1 leaves
    obtain ⟨-, stop, sens⟩ := inputs_takeFlt s a
    refine ⟨.inl (by rw [modAx_stop, stop]), fun b => ?_, fun b => .inl (by rw [(sets _ b).1, sens])⟩
    by_cases e : b = a
    · subst e; exact .inr (.inr (.inr ⟨⟨level, rfl, change⟩, due⟩))
    · exact .inl (by rw [(sets _ b).2, flt_takeFlt, if_neg e])
  · exact .of_same rfl (fun b => (sets s b).2) fun b => by rw [(sets s b).1]

theorem qualifies_takeFlt (s : State) (a : Axis) (edge : c = .fltAssertion a ∨ c = .fltDeassertion a) :
    Qualifies c s (s.takeFlt a) := by
  obtain ⟨-, stop, sens⟩ := inputs_takeFlt s a
  refine ⟨.inl (by rw [stop]), fun b => ?_, fun b => .inl (by rw [sens])⟩
  by_cases e : b = a
  · subst e; exact .inr (edge.elim .inl fun edge => .inr (.inl edge))
  · exact .inl (by rw [flt_takeFlt, if_neg e])

theorem qualifies_stopPin (s : State) (level : Level) : Qualifies (.stopPinChange level) s (s.stopPin level) := by
  unfold State.stopPin
  dsimp only
  split
  · next leaves =>
    obtain ⟨change, due⟩ := (leaves_iff _ _ _).1 leaves
    obtain ⟨-, -, axes⟩ := inputs_takeStop s
    exact ⟨.inr (.inr (.inr ⟨⟨level, rfl, change⟩, due⟩)), fun b => .inl (congrArg FilteredInput.qualified (axes b).2),
      fun b => .inl (congrArg FilteredInput.qualified (axes b).1)⟩
  · exact .of_same (FilteredInput.qualified_setPin _ _) (fun _ => rfl) fun _ => rfl

theorem qualifies_takeStop (s : State) (edge : c = .stopAssertion ∨ c = .stopDeassertion) : Qualifies c s s.takeStop := by
  obtain ⟨-, -, axes⟩ := inputs_takeStop s
  exact ⟨.inr (edge.elim .inl fun edge => .inr (.inl edge)), fun b => .inl (by rw [(axes b).2]), fun b => .inl (by rw [(axes b).1])⟩

/-- AXCONFIG accepts a count that its new filter time completes (R90). -/
theorem qualifies_applyAxconfig (s : State) : Qualifies .axconfig s s.applyAxconfig := by
  obtain ⟨r, -, e⟩ | ⟨-, -, -, e⟩ := applyAxconfig_cases s <;> rw [e]
  · exact .of_same rfl (fun _ => rfl) fun _ => rfl
  have examined : s.configured.SameSetup
      (if (s.ax s.axsel).mode = .disabled ∧ (configOfBlock s.block).enable then (s.configured.examine s.axsel).settle
        else s.configured) := .ite ((SameSetup.examine _ _).trans (.settle _)) (.refl _)
  generalize (if (s.ax s.axsel).mode = .disabled ∧ (configOfBlock s.block).enable then (s.configured.examine s.axsel).settle
        else s.configured) = t at examined ⊢
  refine ⟨.inl (by rw [examined.stop]; rfl), fun b => .inl ?_, fun b => ?_⟩
  · rw [(examined.ax b).flt, ax_configured]
    split <;> rfl
  · rw [(examined.ax b).sens, (examined.ax b).config, ax_configured]
    split
    · next e =>
      subst e
      unfold AxisState.configure
      dsimp only
      split
      · next due =>
        refine .inr (.inr (.inr (.inr (.inl ⟨rfl, rfl, ?_⟩))))
        obtain ⟨us, count, le⟩ := (Option.any_eq_true _ _).1 due
        exact ⟨us, count, by simpa using le⟩
      · exact .inl rfl
    · exact .inl rfl

theorem qualifies_applySoftreset (s : State) : Qualifies .softreset s s.applySoftreset := by
  rw [applySoftreset_eq]
  have examined := (SameSetup.examined s).trans (.settle _)
  exact ⟨.inl (by rw [examined.stop]; rfl), fun b => .inl (by rw [(examined.ax b).flt, ax_softReset]; rfl),
    fun b => .inr (.inr (.inr (.inr (.inr rfl))))⟩

theorem qualifies_exec (h : exec c s = .next t) (not_reset : c ≠ .hardwareReset) : Qualifies c s t := by
  cases f : filtering c with
  | false => exact .of_inputs ((frame_exec h not_reset).inputs f)
  | true =>
    cases c with
    | sensPinChange a level =>
      cases h
      split
      · exact .of_same rfl (item_modAx (·.drive.flt.qualified) rfl) (item_modAx (·.sens.qualified) rfl)
      · exact qualifies_sensPin s a level
    | leadingEdge a => cases h; exact .operating (.ite (.of_settlesSens (.takeSens s a) (.inl rfl)))
    | trailingEdge a => cases h; exact .operating (.ite (.of_settlesSens (.takeSens s a) (.inr rfl)))
    | fltPinChange a level =>
      cases h
      split
      · exact .of_same rfl (item_modAx (·.drive.flt.qualified) rfl) (item_modAx (·.sens.qualified) rfl)
      · exact qualifies_fltPin s a level
    | fltAssertion a => cases h; exact .operating (.ite (qualifies_takeFlt s a (.inl rfl)))
    | fltDeassertion a => cases h; exact .operating (.ite (qualifies_takeFlt s a (.inr rfl)))
    | stopPinChange level =>
      cases h
      split
      · exact .of_same rfl (fun _ => rfl) fun _ => rfl
      · exact qualifies_stopPin s level
    | stopAssertion => cases h; exact .operating (.ite (qualifies_takeStop s (.inl rfl)))
    | stopDeassertion => cases h; exact .operating (.ite (qualifies_takeStop s (.inr rfl)))
    | axconfig => cases h; exact .operating (f := State.applyAxconfig) (qualifies_applyAxconfig s)
    | softreset => cases h; exact .operating (f := State.applySoftreset) (qualifies_applySoftreset s)
    | hardwareReset => exact absurd rfl not_reset
    | resetRelease =>
      cases h
      exact .ite (.of_same rfl (fun b => by rw [ax_releaseReset]; rfl) fun b => by rw [ax_releaseReset]; rfl)
    | _ => cases f

end State

/-! ## The statements -/

/-- Settles O19: the port items by the frames of the commands, the qualified levels by what each filter's commands accept. -/
theorem portItemsWrittenByTheirOwners : Obligations.PortItemsWrittenByTheirOwners := by
  intro c s t h
  by_cases reset : c = .hardwareReset
  · subst reset
    cases h
    exact ⟨rfl, fun no => absurd rfl no⟩
  · have frame := State.frame_exec h reset
    have levels := State.qualifies_exec h reset
    exact ⟨frame.pending, fun _ =>
      ⟨frame.cres, frame.port, frame.snapshot, frame.flags, levels.stop, levels.flt, levels.sens⟩⟩

end Sys2Proof.Machine
end

section
/-! SUPPORT. The statements about profiles, the parameter block, DISABLED, the setup and the position counters. -/

namespace Sys2Proof.Machine

namespace State

variable {s t u : State} {a : Axis} {c : Instr}

theorem operating_cases (s : State) (f : State → State) :
    s.inReset = true ∧ s.operating f = s ∨ s.inReset = false ∧ s.operating f = f s := by
  cases held : s.inReset
  · exact .inr ⟨rfl, operating_of_not_inReset s f held⟩
  · exact .inl ⟨rfl, operating_of_inReset s f held⟩

/-! ## Profiles (R20, R34) -/

theorem profilesLegal_applyProfile (h : s.ProfilesLegal) : s.applyProfile.ProfilesLegal := by
  obtain ⟨r, e⟩ | ⟨p, legal, -, e⟩ := applyProfile_cases s <;> rw [e]
  · exact h
  · intro q
    rw [prof_result, prof_modProf]
    split
    · exact legal
    · exact h q

theorem profilesLegal_exec (h : exec c s = .next t) (legal : s.ProfilesLegal) : t.ProfilesLegal := by
  by_cases reset : c = .hardwareReset
  · subst reset
    cases h
    intro p
    rw [show s.hardReset.prof p = State.reset.prof p from rfl]
    revert p
    decide
  by_cases profile : c = .profile
  · subst profile
    cases h
    obtain ⟨-, e⟩ | ⟨-, e⟩ := operating_cases s State.applyProfile <;> rw [e]
    · exact legal
    · exact profilesLegal_applyProfile legal
  · intro p
    obtain ⟨start, cruise, length⟩ := (frame_exec h reset).profs profile p
    rw [start, cruise, length]
    exact legal p

/-! ## The parameter block (R157) -/

/-- A refused query or FLUSH leaves the parameter block. -/
theorem block_of_refused (query : c = .profquery ∨ c = .gatequery ∨ c = .axquery ∨ c = .flush) (operating : s.inReset = false)
    (h : exec c s = .next t) (refused : t.cres ≠ .ok) : t.block = s.block := by
  rcases query with rfl | rfl | rfl | rfl
  · rw [show exec .profquery s = .next s.applyProfquery from congrArg _ (operating_of_not_inReset s _ operating)] at h
    cases h
    obtain ⟨r, -, e⟩ | ⟨block, e⟩ := applyProfquery_cases s <;> rw [e] at refused ⊢
    · rfl
    · exact absurd rfl refused
  · rw [show exec .gatequery s = .next s.applyGatequery from congrArg _ (operating_of_not_inReset s _ operating)] at h
    cases h
    obtain ⟨r, -, e⟩ | ⟨block, e⟩ := applyGatequery_cases s <;> rw [e] at refused ⊢
    · rfl
    · exact absurd rfl refused
  · rw [show exec .axquery s = .next s.applyAxquery from congrArg _ (operating_of_not_inReset s _ operating)] at h
    cases h
    exact absurd rfl refused
  · rw [exec_flush operating] at h
    cases h
    by_cases disabled : (s.ax s.axsel).mode = .disabled
    · rw [applyFlush_of_disabled disabled]; rfl
    · rw [applyFlush_of_enabled disabled] at refused
      exact absurd rfl refused

/-- FLUSH writes PB0 alone. -/
theorem block_of_flush (h : exec .flush s = .next t) (i : Fin 16) (ne : i ≠ 0) : t.block[i] = s.block[i] := by
  cases h
  obtain ⟨-, e⟩ | ⟨-, e⟩ := operating_cases s State.applyFlush <;> rw [e]
  by_cases disabled : (s.ax s.axsel).mode = .disabled
  · rw [applyFlush_of_disabled disabled]; rfl
  · rw [applyFlush_of_enabled disabled]
    have : (i : Nat) ≠ 0 := fun e => ne (Fin.ext e)
    simp [State.flushed, this.symm]

/-! ## DISABLED (R63, R66, R67) -/

theorem disabled_exec (hs : ∀ b, (s.ax b).shaped = true) (h : exec c s = .next t) (not_reset : c ≠ .hardwareReset)
    (not_axconfig : c ≠ .axconfig) (b : Axis) : (t.ax b).mode = .disabled ↔ (s.ax b).mode = .disabled := by
  have held {f : State → State} (k : ∀ b, ((f s).ax b).mode = .disabled ↔ (s.ax b).mode = .disabled) :
      ((s.operating f).ax b).mode = .disabled ↔ (s.ax b).mode = .disabled := by
    obtain ⟨-, e⟩ | ⟨-, e⟩ := operating_cases s f <;> rw [e]
    exact k b
  by_cases ord : ordinary c = true
  · exact ((runs_exec hs ord h).axes b).enabled
  cases c with
  | post =>
    cases h
    refine held ?_
    obtain ⟨r, e⟩ | ⟨m, admits, e⟩ := applyPost_cases s <;> rw [e]
    · exact fun _ => Iff.rfl
    · exact (keeps_acceptMove hs admits).2.2
  | profile => cases h; exact held fun b => by rw [(keeps_applyProfile s).2]
  | gateset => cases h; exact held fun b => by rw [(keeps_applyGateset s).2]
  | gateclear => cases h; exact held fun b => by rw [(keeps_applyGateclear s).2]
  | softreset => cases h; exact held (keeps_applySoftreset hs).2.2
  | axconfig => exact absurd rfl not_axconfig
  | hardwareReset => exact absurd rfl not_reset
  | _ => simp [ordinary] at ord

/-- AXCONFIG reaches the enabling of its own axis alone, and answers OK where it does. -/
theorem disabled_axconfig (hs : ∀ b, (s.ax b).shaped = true) (h : exec .axconfig s = .next t) (b : Axis) :
    ((s.ax b).mode = .disabled ↔ (t.ax b).mode = .disabled) ∨
      s.axsel = b ∧ t.cres = .ok ∧ ((t.ax b).mode = .disabled ↔ (configOfBlock s.block).enable = false) := by
  cases h
  obtain ⟨-, e⟩ | ⟨-, e⟩ := operating_cases s State.applyAxconfig <;> rw [e]
  · exact .inl Iff.rfl
  have enabled := (keeps_applyAxconfig hs).2.2 b
  obtain ⟨r, -, e⟩ | ⟨-, -, -, e⟩ := applyAxconfig_cases s
  · rw [e]; exact .inl Iff.rfl
  refine enabled.imp Iff.symm fun ⟨sel, enables⟩ => ⟨sel.symm, ?_, enables⟩
  rw [e]
  have examined : s.configured.SameSetup
      (if (s.ax s.axsel).mode = .disabled ∧ (configOfBlock s.block).enable then (s.configured.examine s.axsel).settle
        else s.configured) := .ite ((SameSetup.examine _ _).trans (.settle _)) (.refl _)
  exact examined.cres

end State

/-! ## The statements -/

/-- Settles O12: PROFILE refuses a record outside the ranges, and nothing else writes one but a hardware reset. -/
theorem profilesStayLegal : Obligations.ProfilesStayLegal := fun _ _ hs h =>
  step_keeps (P := State.ProfilesLegal) (fun _ _ => id) (fun _ _ => id) (fun _ _ _ k e => State.profilesLegal_exec e k)
    (fun s legal p => by rw [(State.SameCore.tick s).prof]; exact legal p) hs h

/-- Settles O20, by the frame of each command, and by the branches of the queries and of FLUSH. -/
theorem onlyQueriesAndFlushWriteTheBlock : Obligations.OnlyQueriesAndFlushWriteTheBlock := by
  intro c s t h not_reset not_write
  refine ⟨(State.frame_exec h not_reset).block not_write, fun query operating refused =>
    State.block_of_refused query operating h refused, fun flush i ne => ?_⟩
  subst flush
  exact State.block_of_flush h i ne

/-- Settles O21: every operation keeps an axis on its side of DISABLED, but for the write of the enable field. -/
theorem disabledChangesOnlyByAxconfig : Obligations.DisabledChangesOnlyByAxconfig := by
  intro c s t a hs h not_reset
  by_cases axconfig : c = .axconfig
  · subst axconfig
    exact (State.disabled_axconfig (State.shaped_iff.1 hs) h a).imp_right fun k => ⟨rfl, k⟩
  · exact .inl (State.disabled_exec (State.shaped_iff.1 hs) h not_reset axconfig a).symm

/-- Settles O6, invariant by invariant. -/
theorem resetMeetsEveryInvariant : Obligations.ResetMeetsEveryInvariant := by
  unfold Obligations.ResetMeetsEveryInvariant
  exact ⟨by decide, by decide, by decide, by decide, by decide, by decide, by decide, by decide, by decide, by decide,
    by decide, by decide⟩

end Sys2Proof.Machine
end

section
/-! SUPPORT. The position counters: which commands can move one, by how much, and which ones cannot (R59). -/

namespace Sys2Proof.Machine

namespace State

variable {s t u : State} {a : Axis} {c : Instr} {on : Axis → Prop}

/-! ## Commands whose reports all halt their axis -/

/-- From `s` to `t` no position counter moves and nothing is deposited, and every report built on the way halts its axis. -/
structure Rests (s t : State) : Prop where
  reports : t.reports = s.reports
  position : ∀ a, (t.ax a).position = (s.ax a).position
  offers : ∀ a o, (t.ax a).offer = some o → (s.ax a).offer = some o ∨ o.path ≠ .cont

namespace Rests

theorem of_eq (reports : t.reports = s.reports) (axes : t.axes = s.axes) : s.Rests t := by
  have same (a : Axis) : t.ax a = s.ax a := by simp only [State.ax, axes]
  exact ⟨reports, fun a => by rw [same], fun a o h => .inl (by rw [← same]; exact h)⟩

theorem refl (s : State) : s.Rests s := of_eq rfl rfl

theorem trans (h : s.Rests t) (k : t.Rests u) : s.Rests u where
  reports := k.reports.trans h.reports
  position a := (k.position a).trans (h.position a)
  offers a o offer := (k.offers a o offer).elim (h.offers a o) .inr

theorem modAx (s : State) (a : Axis) (f : AxisState → AxisState) (position : (f (s.ax a)).position = (s.ax a).position)
    (offers : ∀ o, (f (s.ax a)).offer = some o → (s.ax a).offer = some o ∨ o.path ≠ .cont) : s.Rests (s.modAx a f) where
  reports := rfl
  position := item_modAx (·.position) position
  offers b o offer := by
    rw [ax_modAx] at offer
    split at offer
    · next e => subst e; exact offers o offer
    · exact .inl offer

/-- An update that writes neither the position nor the offer. -/
theorem update (s : State) (a : Axis) (f : AxisState → AxisState)
    (same : (f (s.ax a)).position = (s.ax a).position ∧ (f (s.ax a)).offer = (s.ax a).offer) : s.Rests (s.modAx a f) :=
  modAx s a f same.1 fun _ offer => .inl (same.2.symm.trans offer)

theorem ite {p : Prop} [Decidable p] (h : s.Rests t) (k : s.Rests u) : s.Rests (if p then t else u) := by
  split <;> assumption

theorem offerReport (s : State) (a : Axis) {k : Finding} (halts : k.path ≠ .cont) (tag : Byte) (aux : Nat) :
    s.Rests (s.offerReport a k tag aux) :=
  modAx s a _ rfl fun o offer => .inr (by cases offer; exact halts)

theorem release (s : State) (m : Move) : s.Rests (s.release m) := by rw [release_eq]; exact of_eq rfl rfl

theorem withdraw (s : State) (a : Axis) : s.Rests (s.withdraw a) := by
  unfold State.withdraw
  split
  · exact refl s
  · exact of_eq rfl rfl

theorem endMove (s : State) (a : Axis) {k : Finding} (halts : k.path ≠ .cont) (aux : Nat) : s.Rests (s.endMove a k aux) := by
  unfold State.endMove
  split
  · exact refl s
  · exact ((update s a AxisState.clearMove ⟨rfl, rfl⟩).trans (release _ _)).trans (offerReport _ a halts _ _)

theorem enterHalted (s : State) (a : Axis) (cause : HaltCause) : s.Rests (s.enterHalted a cause) :=
  (update s a (fun x => { x with mode := .halted, cause := x.cause.enter cause }) ⟨rfl, rfl⟩).trans (of_eq rfl rfl)

theorem trailingEdge (s : State) (a : Axis) : s.Rests (s.trailingEdge a) := by
  unfold State.trailingEdge
  dsimp only
  split
  · exact update s a _ ⟨rfl, rfl⟩
  · exact refl s

theorem driveFault (s : State) (a : Axis) (d : DriveDetail) : s.Rests (s.driveFault a d) := by
  have caused : s.Rests (s.modAx a fun x => { x with cause := .drive }) := update s a _ ⟨rfl, rfl⟩
  have halts : (Finding.driveFault d).path ≠ .cont := by simp [Finding.path]
  unfold State.driveFault
  dsimp only
  split
  · exact refl s
  · exact caused.trans (endMove _ a halts _)
  · exact caused.trans (endMove _ a halts _)
  · exact caused.trans (endMove _ a halts _)
  · exact caused.trans (endMove _ a halts _)
  · exact caused.trans (endMove _ a halts _)
  · exact ((caused.trans (withdraw _ a)).trans (update _ a AxisState.hold ⟨rfl, rfl⟩)).trans (offerReport _ a halts _ _)
  · exact caused.trans (offerReport _ a halts _ _)
  · exact caused.trans (offerReport _ a halts _ _)
  · exact caused.trans (update _ a _ ⟨rfl, rfl⟩)

theorem examine (a : Axis) (s : State) : s.Rests (State.examine a s) := by
  have stopped : s.Rests (if s.stop.qualified = .low ∧ (s.ax a).mode = .idle then s.enterHalted a .stopLine else s) :=
    ite (enterHalted s a _) (refl s)
  exact stopped.trans (ite (driveFault _ a _) (refl _))

theorem timeoutAxis (s : State) (a : Axis) (g : GateTag) (set : AxisSet) : s.Rests (s.timeoutAxis a g set) :=
  (update s a AxisState.hold ⟨rfl, rfl⟩).trans (offerReport _ a (by simp [Finding.path]) _ _)

theorem forAxes {f : Axis → State → State} (h : ∀ (a : Axis) (s : State), s.Rests (f a s)) (s : State) :
    s.Rests (State.forAxes f s) := (((h .A s).trans (h .B _)).trans (h .C _)).trans (h .D _)

theorem expireGate (s : State) (g : GateTag) : s.Rests (s.expireGate g) := by
  have stops : s.Rests (s.modGate g fun q => { q with arrivals := 0, timer := none }) := of_eq rfl rfl
  unfold State.expireGate
  exact stops.trans (forAxes (fun a u => ite (timeoutAxis u a g _) (refl u)) _)

end Rests

/-- A grant that halts its axis leaves every report still to be granted one that halts its axis. -/
theorem rests_delivered {o : Offer} (halts : o.path ≠ .cont) : s.Rests (s.delivered a o.path) := by
  have taken (f : AxisState → AxisState) (position : (f (s.ax a)).position = (s.ax a).position)
      (none : (f (s.ax a)).offer = none) : s.Rests (s.modAx a f) :=
    .modAx s a f position fun o offer => by rw [none] at offer; cases offer
  unfold State.delivered
  split
  · exact (taken _ rfl rfl).trans (.offerReport _ a (by simp [Finding.path]) _ _)
  · cases path : o.path with
    | cont => exact absurd path halts
    | halted cause => exact (taken _ rfl rfl).trans (.enterHalted _ a cause)

/-- Grants of reports that halt their axes move no counter. -/
theorem position_settle (halts : ∀ a o, (s.ax a).offer = some o → o.path ≠ .cont) (b : Axis) :
    (s.settle.ax b).position = (s.ax b).position := by
  unfold State.settle
  generalize Config.reportPlaces - s.reports.reports.length = n
  induction n generalizing s with
  | zero => rfl
  | succ n ih =>
    rw [State.grantPlaces]
    split
    · rfl
    · next a candidate =>
      obtain ⟨o, offer⟩ := Option.isSome_iff_exists.1 (offer_of_nextCandidate s candidate)
      have rests : (s.deposit o.report).Rests (s.grant a) := by
        rw [grant_eq offer]; exact rests_delivered (halts a o offer)
      refine (ih fun c p waits => ?_).trans (rests.position b)
      exact (rests.offers c p waits).elim (halts c p) id

/-- With the queue in order, such a command moves no counter, with the grants that follow. -/
theorem Rests.settle (h : s.Rests u) (order : s.ReportsOrdered) (b : Axis) : (u.settle.ax b).position = (s.ax b).position := by
  rw [reportsOrdered_iff] at order
  by_cases full : s.reports.reports.length = Config.reportPlaces
  · rw [settle_of_full u (by rw [h.reports, full])]; exact h.position b
  · refine (position_settle (fun a o offer => ?_) b).trans (h.position b)
    refine (h.offers a o offer).resolve_left fun waits => full (order.2 a ?_)
    rw [waits]; rfl

/-! ## What each command does to a counter -/

theorem shifts_of_frame (axes : ∀ a, (t.ax a).position = (s.ax a).position) : s.Shifts on t :=
  fun a => .inl (.inl (axes a))

theorem shifts_operating {f : State → State} (h : s.Shifts on (f s)) : s.Shifts on (s.operating f) := by
  obtain ⟨-, e⟩ | ⟨-, e⟩ := operating_cases s f <;> rw [e]
  · exact .refl s on
  · exact h

theorem shifts_if {p : Prop} [Decidable p] (h : s.Shifts on t) : s.Shifts on (if p then t else s) := by
  split
  · exact h
  · exact .refl s on

theorem Engine.settle (h : s.Engine on u) : s.Shifts on u.settle := h.shifts.before (shifts_settle u)

theorem shifts_takeSens (s : State) (a : Axis) :
    s.Shifts (fun b => b = a ∧ (s.ax a).sens.pin = (s.ax a).config.activeLevel) (s.takeSens a) := (Engine.acceptSens s a).settle

/-- Of the two levels that a change of the SENS pin can bring to acceptance, one alone is a leading edge. -/
theorem shifts_sensPin (s : State) (a : Axis) (level : Level) : s.Shifts (· = a) (s.sensPin a level) := by
  unfold State.sensPin
  split
  · exact .refl s _
  next change =>
  have left : ∀ u, u = (if (s.ax a).sens.leaves level (s.ax a).config.filter then s.takeSens a else s) →
      s.Shifts (fun b => b = a ∧ (s.ax a).sens.pin = (s.ax a).config.activeLevel) u ∧
      (u.ax a).config = (s.ax a).config := by
    rintro u rfl
    split
    · exact ⟨shifts_takeSens s a, (SameBase.takeSens s a).config a⟩
    · exact ⟨.refl s _, rfl⟩
  have left := left _ rfl
  dsimp only
  generalize (if (s.ax a).sens.leaves level (s.ax a).config.filter then s.takeSens a else s) = u at left ⊢
  have sets : u.Engine nowhere (u.modAx a fun x => { x with sens := x.sens.setPin level }) := .modAx u a _ (.inl rfl)
  have pin : ((u.modAx a fun x => { x with sens := x.sens.setPin level }).ax a).sens.pin = level ∧
      ((u.modAx a fun x => { x with sens := x.sens.setPin level }).ax a).config = (s.ax a).config := by
    rw [ax_modAx_self]
    refine ⟨?_, left.2⟩
    show ((u.ax a).sens.setPin level).pin = level
    unfold FilteredInput.setPin
    split
    · next same => exact same.symm
    · rfl
  have set := left.1.before sets.shifts
  generalize (u.modAx a fun x => { x with sens := x.sens.setPin level }) = v at set pin ⊢
  split
  · have second := shifts_takeSens v a
    rw [pin.1, pin.2] at second
    refine (set.trans second fun b first leading => change (leading.2.trans first.2.symm)).mono fun b h => ?_
    exact h.elim And.left And.left
  · exact set.mono fun b => And.left

theorem engine_acceptFlt (s : State) (a : Axis) : s.Engine nowhere (s.acceptFlt a) := .modAx s a _ (.inl rfl)

theorem shifts_takeFlt (s : State) (a : Axis) : s.Shifts on (s.takeFlt a) := by
  refine Shifts.mono (on := nowhere) ?_ fun _ => False.elim
  unfold State.takeFlt
  split
  · exact ((engine_acceptFlt s a).after (.driveFault _ a _)).settle
  · exact (engine_acceptFlt s a).shifts

theorem shifts_fltPin (s : State) (a : Axis) (level : Level) : s.Shifts on (s.fltPin a level) :=
  (shifts_if (shifts_takeFlt s a)).before
    (Engine.modAx _ a (fun x => { x with drive := { x.drive with flt := x.drive.flt.setPin level } }) (.inl rfl)).shifts

/-- Every axis. -/
abbrev everywhere : Axis → Prop := fun _ => True

theorem shifts_takeStop (s : State) : s.Shifts everywhere s.takeStop := by
  have latched : s.Engine nowhere ({ s with stop := s.stop.accept }.latch flagSTOPIN) := .of_eq rfl rfl
  unfold State.takeStop
  dsimp only
  split
  · exact (latched.after (.stopAll _ .line)).settle
  · exact shifts_of_frame fun _ => rfl

theorem shifts_stopPin (s : State) (level : Level) : s.Shifts everywhere (s.stopPin level) :=
  (shifts_if (shifts_takeStop s)).before (Engine.of_eq (t := s.stopPin level) rfl rfl).shifts

theorem shifts_takeSample (s : State) (a : Axis) (step dir : Level) : s.Shifts nowhere (s.takeSample a step dir) := by
  unfold State.takeSample
  split
  · exact .refl s _
  have read : s.Engine nowhere (s.modAx a fun x =>
      { x with drive := { x.drive with stepPin := step, dirPin := dir, sample := none } }) := .modAx s a _ (.inl rfl)
  dsimp only
  split
  · exact read.shifts
  · exact (read.after (.driveFault _ a _)).settle

theorem engine_posted (s : State) (m : Move) : s.Engine nowhere (s.posted m) :=
  ⟨by rw [posted, result_reports, modAx_reports, allocate_eq], fun b => .inl (.inl (by rw [ax_posted]; split <;> rfl))⟩

theorem shifts_applyPost (s : State) : s.Shifts nowhere s.applyPost := by
  obtain ⟨r, e⟩ | ⟨m, -, e⟩ := applyPost_cases s <;> rw [e]
  · exact (Engine.result s r).shifts
  · rw [acceptMove_eq]
    split
    · exact ((engine_posted s m).after (.takeNext _ _)).settle
    · exact (engine_posted s m).shifts

theorem shifts_applyAbort (s : State) : s.Shifts everywhere s.applyAbort := by
  have ok : s.Engine nowhere (s.result .ok) := .result s _
  have stops : s.Shifts everywhere ((s.result .ok).controlledStop s.axsel (some (.aborted .running))).settle :=
    (ok.after (.controlledStop _ _ _)).settle.mono fun _ _ => trivial
  unfold State.applyAbort
  dsimp only
  split
  · exact stops
  · exact stops
  · exact stops
  · exact (ok.after (.after (.withdraw _ _) (.endMove _ _ _ _))).settle
  · exact (ok.after (.endMove _ _ _ _)).settle
  all_goals exact (Engine.result s _).shifts

theorem shifts_applyResume (s : State) : s.Shifts nowhere s.applyResume := by
  unfold State.applyResume
  dsimp only
  split
  · exact (Engine.result s _).shifts
  split
  · exact (Engine.result s _).shifts
  split
  · exact (Engine.result s _).shifts
  have resumes : s.Engine nowhere ((s.modAx s.axsel fun x => { x with cause := .none, held := none }).result .ok) :=
    .after (.modAx s _ _ (.inl rfl)) (.result _ _)
  split
  · exact (resumes.after (.take _ _ _)).settle
  · exact (resumes.after (.takeNext _ _)).settle

theorem engine_configured (s : State) : s.Engine nowhere s.configured :=
  .after (.modAx s _ _ (.inl rfl)) (.result _ _)

theorem shifts_applyAxconfig (s : State) : s.Shifts nowhere s.applyAxconfig := by
  obtain ⟨r, -, e⟩ | ⟨-, -, -, e⟩ := applyAxconfig_cases s <;> rw [e]
  · exact (Engine.result s r).shifts
  split
  · exact ((engine_configured s).after (.examine _ _)).settle
  · exact (engine_configured s).shifts

theorem shifts_applyPop (s : State) : s.Shifts nowhere s.applyPop := by
  unfold State.applyPop
  split
  · exact (Engine.result s _).shifts
  · next d rest _ =>
    have pops : s.Shifts nowhere ({ s with reports := { s.reports with reports := rest, pointer := 0 } }.result .ok) :=
      shifts_of_frame fun _ => rfl
    exact pops.before (shifts_settle _)

theorem position_flushed (s : State) (b : Axis) : (s.flushed.ax b).position = (s.ax b).position :=
  item_modAx (s := s) (a := s.axsel) (f := fun x => { x with queue := [], held := none }) (·.position) rfl b

/-- The commands that write no position counter, whatever they find. -/
def sparing : Instr → Bool
  | .flush | .limits | .axquery | .profile | .profquery | .gateset | .gateclear | .gatequery | .badCommand _ | .axpos0Read
  | .rdataRead | .iflagWrite _ | .windowWrite _ _ | .resetRelease | .stepHighTimeEnd _ => true
  | _ => false

theorem position_of_sparing (spares : sparing c = true) (h : exec c s = .next t) (b : Axis) :
    (t.ax b).position = (s.ax b).position := by
  have held {f : State → State} (k : ((f s).ax b).position = (s.ax b).position) :
      ((s.operating f).ax b).position = (s.ax b).position := by
    obtain ⟨-, e⟩ | ⟨-, e⟩ := operating_cases s f <;> rw [e]
    exact k
  cases c with
  | flush =>
    cases h
    refine held ?_
    by_cases disabled : (s.ax s.axsel).mode = .disabled
    · rw [applyFlush_of_disabled disabled]; rfl
    · rw [applyFlush_of_enabled disabled]; exact position_flushed s b
  | limits =>
    cases h
    refine held ?_
    rw [applyLimits_eq]
    split
    · rfl
    split
    · rfl
    · exact item_modAx (s := s) (f := fun x => { x with limitMin := s.blockLimitMin, limitMax := s.blockLimitMax })
        (·.position) rfl b
  | axquery => cases h; exact held rfl
  | profile => cases h; exact held (by rw [(keeps_applyProfile s).2])
  | profquery =>
    cases h
    refine held ?_
    obtain ⟨r, -, e⟩ | ⟨block, e⟩ := applyProfquery_cases s <;> rw [e] <;> rfl
  | gateset => cases h; exact held (by rw [(keeps_applyGateset s).2])
  | gateclear => cases h; exact held (by rw [(keeps_applyGateclear s).2])
  | gatequery =>
    cases h
    refine held ?_
    obtain ⟨r, -, e⟩ | ⟨block, e⟩ := applyGatequery_cases s <;> rw [e] <;> rfl
  | badCommand v =>
    simp only [exec, execBadCommand] at h
    split at h
    · cases h
    · cases h; exact held rfl
  | axpos0Read => cases h; split <;> rfl
  | rdataRead => cases h; split <;> rfl
  | iflagWrite v => cases h; exact held rfl
  | windowWrite o v =>
    simp only [exec, execWindowWrite] at h
    split at h
    · cases h
    · cases h; exact held (by rw [writeLocation_eq]; rfl)
  | resetRelease =>
    cases h
    split
    · rw [ax_releaseReset]; rfl
    · rfl
  | stepHighTimeEnd a =>
    cases h
    refine held ?_
    split
    · exact item_modAx (·.position) rfl b
    · rfl
  | _ => cases spares

/-- A command other than SETPOS and the resets moves a counter by one step, puts it to 0, or both. -/
theorem shifts_exec (h : exec c s = .next t) (not_setpos : c ≠ .setpos) (not_softreset : c ≠ .softreset)
    (not_reset : c ≠ .hardwareReset) : s.Shifts everywhere t := by
  have each {v : State} (k : s.Shifts nowhere v) : s.Shifts everywhere v := k.mono fun _ => False.elim
  have one {v : State} {a : Axis} (k : s.Shifts (· = a) v) : s.Shifts everywhere v := k.mono fun _ _ => trivial
  by_cases spares : sparing c = true
  · exact shifts_of_frame (position_of_sparing spares h)
  cases c with
  | setpos => exact absurd rfl not_setpos
  | softreset => exact absurd rfl not_softreset
  | hardwareReset => exact absurd rfl not_reset
  | flush | limits | axquery | profile | profquery | gateset | gateclear | gatequery | badCommand | axpos0Read | rdataRead
  | iflagWrite | windowWrite | resetRelease | stepHighTimeEnd => exact absurd rfl spares
  | post => cases h; exact shifts_operating (each (shifts_applyPost s))
  | abort => cases h; exact shifts_operating (shifts_applyAbort s)
  | resume => cases h; exact shifts_operating (each (shifts_applyResume s))
  | axconfig => cases h; exact shifts_operating (each (shifts_applyAxconfig s))
  | pop => cases h; exact shifts_operating (each (shifts_applyPop s))
  | haltall => cases h; exact shifts_operating ((Engine.result s .ok).after (.stopAll _ .command)).settle
  | stepPulse a => cases h; exact shifts_operating (shifts_if (one (Engine.pulse s a).settle))
  | readbackSample a step dir => cases h; exact shifts_operating (each (shifts_takeSample s a step dir))
  | dwellExpiry a => cases h; exact shifts_operating (shifts_if (each (Engine.endMove s a _ _).settle))
  | gateTimerExpiry g => cases h; exact shifts_operating (shifts_if (each (Engine.expireGate s g).settle))
  | gateFire g => cases h; exact shifts_operating (shifts_if (each (Engine.fireGate s g).settle))
  | placeGranted => cases h; exact shifts_operating (each (shifts_settle s))
  | sensPinChange a level =>
    cases h
    split
    · exact shifts_of_frame (item_modAx (·.position) rfl)
    · exact one (shifts_sensPin s a level)
  | leadingEdge a => cases h; exact shifts_operating (shifts_if ((shifts_takeSens s a).mono fun _ _ => trivial))
  | trailingEdge a => cases h; exact shifts_operating (shifts_if ((shifts_takeSens s a).mono fun _ _ => trivial))
  | fltPinChange a level =>
    cases h
    split
    · exact shifts_of_frame (item_modAx (·.position) rfl)
    · exact shifts_fltPin s a level
  | fltAssertion a => cases h; exact shifts_operating (shifts_if (shifts_takeFlt s a))
  | fltDeassertion a => cases h; exact shifts_operating (shifts_if (shifts_takeFlt s a))
  | stopPinChange level =>
    cases h
    split
    · exact shifts_of_frame fun _ => rfl
    · exact shifts_stopPin s level
  | stopAssertion => cases h; exact shifts_operating (shifts_if (shifts_takeStop s))
  | stopDeassertion => cases h; exact shifts_operating (shifts_if (shifts_takeStop s))

/-! ## Commands that move no counter of a part whose queue is in order -/

theorem position_takeFlt (order : s.ReportsOrdered) (a b : Axis) : ((s.takeFlt a).ax b).position = (s.ax b).position := by
  have accepts : s.Rests (s.acceptFlt a) := .update s a _ ⟨rfl, rfl⟩
  unfold State.takeFlt
  split
  · exact (accepts.trans (.driveFault _ a _)).settle order b
  · exact accepts.position b

theorem position_takeSample (order : s.ReportsOrdered) (a : Axis) (step dir : Level) (b : Axis) :
    ((s.takeSample a step dir).ax b).position = (s.ax b).position := by
  unfold State.takeSample
  split
  · rfl
  have read : s.Rests (s.modAx a fun x =>
      { x with drive := { x.drive with stepPin := step, dirPin := dir, sample := none } }) := .update s a _ ⟨rfl, rfl⟩
  dsimp only
  split
  · exact read.position b
  · exact (read.trans (.driveFault _ a _)).settle order b

theorem position_applyAxconfig (order : s.ReportsOrdered) (b : Axis) : (s.applyAxconfig.ax b).position = (s.ax b).position := by
  obtain ⟨r, -, e⟩ | ⟨-, -, -, e⟩ := applyAxconfig_cases s <;> rw [e]
  · rfl
  have configures : s.Rests s.configured := (Rests.update s s.axsel (·.configure (configOfBlock s.block)) ⟨rfl, rfl⟩).trans (.of_eq rfl rfl)
  split
  · exact (configures.trans (.examine _ _)).settle order b
  · exact configures.position b

/-- The acceptance of the sensor inactive level reaches no counter. -/
theorem position_takeSens (order : s.ReportsOrdered) (trailing : (s.ax a).sens.pin ≠ (s.ax a).config.activeLevel) (b : Axis) :
    ((s.takeSens a).ax b).position = (s.ax b).position := by
  have accepts : s.Rests (s.modAx a fun x => { x with sens := x.sens.accept }) := .update s a _ ⟨rfl, rfl⟩
  have acts : s.acceptSens a = (s.modAx a fun x => { x with sens := x.sens.accept }).trailingEdge a := by
    unfold State.acceptSens
    dsimp only
    rw [ax_modAx_self]
    exact if_neg trailing
  unfold State.takeSens
  rw [acts]
  exact (accepts.trans (.trailingEdge _ a)).settle order b

theorem pin_of_counting {f : FilteredInput} {level : Level} (h : f.counting level = true) : f.pin = level := by
  simp only [FilteredInput.counting, Bool.and_eq_true, beq_iff_eq] at h
  exact h.2

theorem otherLevel_ne (level : Level) : otherLevel level ≠ level := by cases level <;> simp [otherLevel]

/-- The commands that write no position counter where every report on the way halts its axis. -/
def resting : Instr → Bool
  | .axconfig | .readbackSample _ _ _ | .gateTimerExpiry _ | .trailingEdge _ | .fltPinChange _ _ | .fltAssertion _
  | .fltDeassertion _ | .stopDeassertion => true
  | _ => false

theorem position_of_resting (order : s.ReportsOrdered) (rests : resting c = true) (h : exec c s = .next t) (b : Axis) :
    (t.ax b).position = (s.ax b).position := by
  have held {f : State → State} (k : ((f s).ax b).position = (s.ax b).position) :
      ((s.operating f).ax b).position = (s.ax b).position := by
    obtain ⟨-, e⟩ | ⟨-, e⟩ := operating_cases s f <;> rw [e]
    exact k
  have cond {p : Prop} [Decidable p] {v : State} (k : p → (v.ax b).position = (s.ax b).position) :
      ((if p then v else s).ax b).position = (s.ax b).position := by
    split
    · next holds => exact k holds
    · rfl
  cases c with
  | axconfig => cases h; exact held (position_applyAxconfig order b)
  | readbackSample a k l => cases h; exact held (position_takeSample order a k l b)
  | gateTimerExpiry g => cases h; exact held (cond fun _ => (Rests.expireGate s g).settle order b)
  | trailingEdge a =>
    cases h
    refine held (cond fun counting => position_takeSens order ?_ b)
    rw [pin_of_counting counting]
    exact otherLevel_ne _
  | fltPinChange a l =>
    cases h
    split
    · exact item_modAx (·.position) rfl b
    · refine Eq.trans (item_modAx (·.position) rfl b) (cond fun _ => position_takeFlt order a b)
  | fltAssertion a => cases h; exact held (cond fun _ => position_takeFlt order a b)
  | fltDeassertion a => cases h; exact held (cond fun _ => position_takeFlt order a b)
  | stopDeassertion =>
    cases h
    refine held (cond fun counting => ?_)
    unfold State.takeStop
    dsimp only
    rw [if_neg (by rw [pin_of_counting counting]; simp)]
    rfl
  | _ => cases rests

end State

/-- Settles O18: the setup by the frames of the commands; a counter by the operations that can move it, one pulse at most, and
where every report built on the way halts its axis by none. -/
theorem setupWrittenByItsOwners : Obligations.SetupWrittenByItsOwners := by
  intro c s t h not_reset
  have frame := State.frame_exec h not_reset
  refine ⟨frame.limits, frame.config, frame.gates, frame.profs, fun setpos a ne => ?_, fun not_setpos not_softreset =>
    (State.shifts_exec h not_setpos not_softreset not_reset).stepped, fun order listed => ?_⟩
  · subst setpos
    cases h
    obtain ⟨-, e⟩ | ⟨-, e⟩ := State.operating_cases s State.applySetpos <;> rw [e]
    rw [applySetpos_eq]
    split
    · rfl
    split
    · rfl
    · rw [ax_result, ax_setAx_of_ne s ne]
  · have still : State.sparing c = true ∨ State.resting c = true := by
      rcases listed with rfl | rfl | rfl | rfl | rfl | rfl | rfl | rfl | rfl | ⟨v, rfl⟩ | rfl | rfl | ⟨v, rfl⟩ | ⟨o, v, rfl⟩ |
        rfl | ⟨b, rfl⟩ | ⟨b, k, l, rfl⟩ | ⟨g, rfl⟩ | ⟨b, rfl⟩ | ⟨b, l, rfl⟩ | ⟨b, rfl⟩ | ⟨b, rfl⟩ | rfl <;>
        simp [State.sparing, State.resting]
    exact still.elim (fun spares => State.position_of_sparing spares h) fun rests => State.position_of_resting order rests h

end Sys2Proof.Machine
end

section
/-! SUPPORT. The statements about single functions of the model: the completeness of the commands, the bus, the held and the
released reset, POP, Table 5-3 and the ramp. -/

namespace Sys2Proof.Machine

variable {s t : State} {c : Instr}

/-! ## Completeness (R154) -/

theorem exec_of_wf (h : c.wf = true) (s : State) : ∃ t, exec c s = .next t := by
  cases c with
  | badCommand code =>
    have unknown : commandCodes.contains code = false := by simpa [Instr.wf] using h
    exact ⟨_, if_neg (by rw [unknown]; simp)⟩
  | windowWrite offset value =>
    have other : ¬(offset = offsetCMD ∨ offset = offsetIFLAG) := by simpa [Instr.wf] using h
    exact ⟨_, if_neg other⟩
  | _ => exact ⟨_, rfl⟩

theorem exec_of_not_wf (h : c.wf = false) (s : State) : exec c s = .refused .illFormed := by
  cases c with
  | badCommand code => exact if_pos (by simpa [Instr.wf] using h)
  | windowWrite offset value =>
    refine if_pos ?_
    by_cases cmd : offset = offsetCMD
    · exact .inl cmd
    · exact .inr (by simpa [Instr.wf, cmd] using h)
  | _ => cases h

/-- Settles O2: two rows alone refuse a term. -/
theorem wellFormedCommandsAlwaysComplete : Obligations.WellFormedCommandsAlwaysComplete :=
  fun _ s => ⟨fun h => exec_of_wf h s, fun h => exec_of_not_wf h s⟩

/-! ## The bus (R152, R154, R155) -/

theorem commandOfCode_eq_none (v : Byte) : commandOfCode v = none ↔ commandCodes.contains v = false := by
  unfold commandOfCode commandCodes
  revert v
  decide

/-- The sixteen codes, one by one. -/
theorem busBytes_commandOfCode {v : Byte} (h : commandOfCode v = some c) : c.wf = true ∧ c.busBytes = some (offsetCMD, v) := by
  have listed : v ∈ commandCodes := by
    by_contra unknown
    rw [(commandOfCode_eq_none v).2 (by simpa using unknown)] at h
    cases h
  simp only [commandCodes, List.mem_cons, List.not_mem_nil, or_false] at listed
  rcases listed with rfl | rfl | rfl | rfl | rfl | rfl | rfl | rfl | rfl | rfl | rfl | rfl | rfl | rfl | rfl | rfl <;>
    cases h <;> exact ⟨rfl, rfl⟩

theorem busWrite_CMD (v : Byte) : busWrite offsetCMD v = (commandOfCode v).getD (.badCommand v) := rfl

theorem busWrite_of_ne {offset : Offset} (cmd : offset ≠ offsetCMD) (iflag : offset ≠ offsetIFLAG) (v : Byte) :
    busWrite offset v = .windowWrite offset v := by
  rw [busWrite, if_neg cmd, if_neg iflag]

theorem busWrite_of_unknown {v : Byte} (h : commandCodes.contains v = false) : busWrite offsetCMD v = .badCommand v := by
  rw [busWrite_CMD, (commandOfCode_eq_none v).2 h]; rfl

theorem busBytes_busWrite (offset : Offset) (v : Byte) :
    (busWrite offset v).wf = true ∧ (busWrite offset v).busBytes = some (offset, v) := by
  by_cases cmd : offset = offsetCMD
  · subst cmd
    cases known : commandOfCode v with
    | none =>
      have unknown := (commandOfCode_eq_none v).1 known
      rw [busWrite_of_unknown unknown]
      exact ⟨by simp only [Instr.wf, unknown, Bool.not_false], rfl⟩
    | some c =>
      rw [busWrite_CMD, known]
      exact busBytes_commandOfCode known
  by_cases iflag : offset = offsetIFLAG
  · subst iflag
    exact ⟨rfl, rfl⟩
  · rw [busWrite_of_ne cmd iflag]
    exact ⟨by simp [Instr.wf, cmd, iflag], rfl⟩

theorem busWrite_busBytes {offset : Offset} {v : Byte} (wf : c.wf = true) (h : c.busBytes = some (offset, v)) :
    busWrite offset v = c := by
  cases c with
  | badCommand code =>
    cases h
    exact busWrite_of_unknown (by simpa [Instr.wf] using wf)
  | windowWrite o w =>
    cases h
    have other : offset ≠ offsetCMD ∧ offset ≠ offsetIFLAG := by simpa [Instr.wf] using wf
    exact busWrite_of_ne other.1 other.2 v
  | _ => cases h <;> rfl

/-- Settles O22: every row of Table 9-2 by its own code, and the other writes by their offset. -/
theorem busWritesDecodeToTheirCommands : Obligations.BusWritesDecodeToTheirCommands := by
  refine ⟨fun c offset v wf h => busWrite_busBytes wf h, busBytes_busWrite, by decide, fun v unknown => ?_, fun offset v =>
    ⟨rfl, fun cmd iflag => busWrite_of_ne cmd iflag v⟩⟩
  exact busWrite_of_unknown (by simpa [commandCodes] using unknown)

/-! ## The reset line (R166) -/

theorem exec_of_held (held : s.inReset = true) {f : State → State} (h : exec c s = .next (s.operating f)) :
    exec c s = .next s := h.trans (congrArg _ (operating_of_inReset s f held))

/-- Settles O4: every effect but a pin's stands under `State.operating`. -/
theorem heldResetIgnoresAllButPins : Obligations.HeldResetIgnoresAllButPins := by
  intro s c held wf
  refine ⟨fun bus => ?_, fun a l k h => ?_, fun g h => ?_, fun h => ?_, fun h => ?_, fun a l h => ?_, fun a l h => ?_, fun l h => ?_,
    ⟨_, rfl, rfl, rfl⟩, fun pins offset => if_pos held, tick_of_inReset s held, if_pos held⟩
  · cases c with
    | badCommand code =>
      have unknown : commandCodes.contains code = false := by simpa [Instr.wf] using wf
      exact exec_of_held held (f := fun s => s.result .badCommand) (if_neg (by rw [unknown]; simp))
    | windowWrite o v =>
      have other : ¬(o = offsetCMD ∨ o = offsetIFLAG) := by simpa [Instr.wf] using wf
      exact exec_of_held held (f := fun s => s.writeLocation o v) (if_neg other)
    | axpos0Read | rdataRead | hardwareReset | resetRelease | stepPulse | stepHighTimeEnd | readbackSample | dwellExpiry
    | gateTimerExpiry | gateFire | placeGranted | sensPinChange | leadingEdge | trailingEdge | fltPinChange | fltAssertion
    | fltDeassertion | stopPinChange | stopAssertion | stopDeassertion => cases bus
    | _ => exact exec_of_held held rfl
  · rcases h with rfl | rfl | rfl | rfl | rfl | rfl | rfl | rfl <;> exact exec_of_held held rfl
  · rcases h with rfl | rfl <;> exact exec_of_held held rfl
  · rcases h with rfl | rfl | rfl <;> exact exec_of_held held rfl
  · rcases h with rfl | rfl <;> exact congrArg _ (if_pos held)
  · subst h; exact congrArg _ (if_pos held)
  · subst h; exact congrArg _ (if_pos held)
  · subst h; exact congrArg _ (if_pos held)

/-! ## POP (R133, R134) -/

theorem exec_pop (h : s.inReset = false) : exec .pop s = .next s.applyPop := congrArg _ (operating_of_not_inReset s State.applyPop h)

theorem applyPop_of_nil (h : s.reports.reports = []) : s.applyPop = s.result .queueEmpty := by rw [State.applyPop, h]

/-- The part once POP has removed the head. -/
def State.popped (s : State) (rest : List Deposited) : State :=
  { s with cres := .ok, reports := { s.reports with reports := rest, pointer := 0 } }

theorem applyPop_of_cons {d : Deposited} {rest : List Deposited} (h : s.reports.reports = d :: rest) :
    s.applyPop = (s.popped rest).settle := by rw [State.applyPop, h]; rfl

/-- Settles O39. -/
theorem popRemovesTheHead : Obligations.PopRemovesTheHead := by
  intro s operating
  rw [exec_pop operating]
  refine ⟨fun empty => congrArg _ (applyPop_of_nil empty), fun d rest list quiet => congrArg _ ?_⟩
  rw [applyPop_of_cons list]
  exact settle_of_noOffers (s.popped rest) quiet

/-! ## Table 5-3 (R98) -/

/-- Settles O48, row by row. -/
theorem markReportsFollowTable53 : Obligations.MarkReportsFollowTable53 := by
  intro μ n
  refine ⟨fun window => ?_, fun found => ⟨fun overshoot short => ?_, fun planned => ⟨fun counting => ?_, fun ended clamped => ?_,
    fun ended not_clamped => ?_⟩⟩⟩
  · rcases window with window | window <;> simp [MarkItems.finding, window]
  · simp [MarkItems.finding, found, short]
  · cases registration : μ.registration with
    | short overshoot => exact absurd registration (planned overshoot)
    | _ => simp [MarkItems.finding, found, registration, counting]
  · simp [MarkItems.finding, found, ended, clamped]
  · cases registration : μ.registration with
    | short overshoot => exact absurd registration (planned overshoot)
    | clamped => exact absurd registration not_clamped
    | _ => simp [MarkItems.finding, found, registration, ended]

/-! ## The ramp (R21, R23) -/

theorem profileLegal_iff {start cruise length : Nat} : profileLegal start cruise length = true ↔
    50 ≤ cruise ∧ cruise ≤ start ∧ start ≤ 65535 ∧ length ≤ 4095 := by
  simp only [profileLegal, Bool.and_eq_true, decide_eq_true_eq, and_assoc]
  rfl

/-- A ramp interval has not reached the cruise interval. -/
theorem ramp_drop_le {d L i : Nat} (h : i < L) : i * d / L ≤ d :=
  Nat.div_le_of_le_mul (Nat.mul_le_mul_right d h.le)

theorem ramp_drop_lt {d L i : Nat} (h : i < L) (pos : 0 < d) : i * d / L < d :=
  Nat.div_lt_of_lt_mul (Nat.mul_lt_mul_of_pos_right h pos)

section Interval
variable {p : Profile} (legal : profileLegal p.start p.cruise p.length = true)
include legal

theorem cruise_le_interval (i : Nat) : p.cruise ≤ p.interval i ∧ p.interval i ≤ p.start := by
  obtain ⟨-, order, -, -⟩ := profileLegal_iff.1 legal
  rcases Nat.lt_or_ge i p.length with ramp | flat
  · have drop := ramp_drop_le (d := p.start - p.cruise) ramp
    rw [interval_of_lt ramp]
    exact ⟨Nat.le_sub_of_add_le (by omega), Nat.sub_le _ _⟩
  · rw [interval_of_le flat]; exact ⟨le_rfl, order⟩

theorem interval_antitone {i j : Nat} (h : i ≤ j) : p.interval j ≤ p.interval i := by
  rcases Nat.lt_or_ge j p.length with ramp | flat
  · rw [interval_of_lt ramp, interval_of_lt (h.trans_lt ramp)]
    exact Nat.sub_le_sub_left (Nat.div_le_div_right (Nat.mul_le_mul_right _ h)) _
  · rw [interval_of_le flat]; exact (cruise_le_interval legal i).1

end Interval

theorem cruise_lt_interval {p : Profile} {i : Nat} (ramp : i < p.length) (h : p.cruise < p.start) :
    p.cruise < p.interval i := by
  have drop := ramp_drop_lt (d := p.start - p.cruise) ramp (by omega)
  rw [interval_of_lt ramp]; omega

/-- Settles O49: the drop of the ramp grows with its index, up to S − C; the step by the three branches of R23. -/
theorem stepsFollowTheRamp : Obligations.StepsFollowTheRamp := by
  intro p i j k r legal le
  have shortest := (profileLegal_iff.1 legal).1
  have bounds := cruise_le_interval legal i
  refine ⟨interval_of_lt, interval_of_le, fun pos => ?_, interval_antitone legal le, cruise_lt_interval,
    ⟨bounds.1, bounds.2, shortest.trans bounds.1⟩, fun more ramp => ⟨fun h => ?_, fun h hk => ?_, fun h hk => ?_, ?_, fun flat => ?_⟩⟩
  · rw [interval_of_lt pos]; simp
  · rw [decide_decel h]; exact ⟨rfl, by omega, rfl⟩
  · rw [decide_accel h hk]; exact ⟨rfl, rfl⟩
  · rw [decide_cruise h hk.ge]; exact ⟨rfl, rfl⟩
  · exact AxisState.Goes.nextK_le ramp
  · have still : k = 0 := by omega
    rw [decide_cruise (by omega) (by omega)]; exact ⟨rfl, still⟩

/-! ## Reset values (R19, R35, R66, R86, R151) -/

/-- Settles O5, table by table. -/
theorem resetValuesAreTheManuals : Obligations.ResetValuesAreTheManuals := by
  refine ⟨fun pins offset => ?_, by decide, by decide, by decide, by decide, rfl, rfl⟩
  obtain ⟨step, dir⟩ := pins
  cases step <;> cases dir <;> revert offset <;> decide

end Sys2Proof.Machine
end

section
/-! SUPPORT. The port: what its writes store, what its reads return, and how fields become bytes and bytes fields. -/

namespace Sys2Proof.Machine

variable {s t : State} {c : Instr}

/-! ## Fields of several bytes (R131, R158, R159) -/

theorem toNat_natByte_zero {n : Nat} (h : n ≤ 255) : (natByte n 0).toNat = n := by
  rw [natByte_zero, BitVec.toNat_ofNat]; omega

theorem unsigned16_natByte {n : Nat} (h : n ≤ 65535) : unsigned16 (natByte n 0) (natByte n 1) = n := by
  rw [unsigned16_eq_add]
  simp only [natByte, BitVec.toNat_ofNat]
  omega

/-- A two-byte field in the places its bytes are found. -/
theorem unsigned16_of_bytes {b₀ b₁ : Byte} {n : Nat} (h₀ : b₀ = natByte n 0) (h₁ : b₁ = natByte n 1) (h : n ≤ 65535) :
    unsigned16 b₀ b₁ = n := by
  subst h₀ h₁; exact unsigned16_natByte h

theorem toNat_of_byte {b : Byte} {n : Nat} (h₀ : b = natByte n 0) (h : n ≤ 255) : b.toNat = n := by
  subst h₀; exact toNat_natByte_zero h

/-- Three bytes put together again. -/
theorem append_wordByte (w : Word24) : wordByte w 2 ++ wordByte w 1 ++ wordByte w 0 = w := by
  refine BitVec.eq_of_getLsbD_eq fun i hi => ?_
  simp only [wordByte, BitVec.getLsbD_append, BitVec.getLsbD_extractLsb']
  by_cases low : i < 8
  · simp [low]
  · by_cases mid : i - 8 < 8
    · simp [low, mid, show 8 + (i - 8) = i by omega]
    · simp [low, mid, show i - 8 - 8 < 8 by omega, show 16 + (i - 8 - 8) = i by omega]

/-- A position in the places its bytes are found. -/
theorem signed24_of_bytes {b₀ b₁ b₂ : Byte} {p : Int} (h₀ : b₀ = positionByte p 0) (h₁ : b₁ = positionByte p 1)
    (h₂ : b₂ = positionByte p 2) (low : Config.minPosition ≤ p) (high : p ≤ Config.maxPosition) : signed24 b₀ b₁ b₂ = p := by
  subst h₀ h₁ h₂
  unfold signed24 positionByte
  rw [append_wordByte, positionWord, BitVec.toInt_ofInt]
  simp only [Config.minPosition, Config.maxPosition] at low high
  rw [Int.bmod_eq_of_le (by omega) (by omega)]

/-! ## Flags and codes in one byte (R162) -/

/-- Six flags in the low bits of a byte. -/
theorem bits_of_six (b₀ b₁ b₂ b₃ b₄ b₅ : Bool) :
    let y := bitAt b₀ 0 ||| bitAt b₁ 1 ||| bitAt b₂ 2 ||| bitAt b₃ 3 ||| bitAt b₄ 4 ||| bitAt b₅ 5
    (y.getLsbD 0 = b₀ ∧ y.getLsbD 1 = b₁ ∧ y.getLsbD 2 = b₂ ∧ y.getLsbD 3 = b₃ ∧ y.getLsbD 4 = b₄ ∧ y.getLsbD 5 = b₅) ∧
      y.extractLsb' 6 2 = 0 := by
  revert b₀ b₁ b₂ b₃ b₄ b₅
  decide

/-- Three flags in the low bits of a byte. -/
theorem bits_of_three (b₀ b₁ b₂ : Bool) :
    let y := bitAt b₀ 0 ||| bitAt b₁ 1 ||| bitAt b₂ 2
    y.getLsbD 0 = b₀ ∧ y.getLsbD 1 = b₁ ∧ y.getLsbD 2 = b₂ := by
  revert b₀ b₁ b₂
  decide

theorem level_beq_high (l : Level) : (if (l == .high) = true then Level.high else .low) = l := by cases l <;> rfl

/-! ## The queries (R33, R64, R72) -/

/-- AXCONFIG reads the fields where AXQUERY writes them. -/
theorem configOfBlock_axisAnswer {x : AxisState} (legal : x.configLegal = true) : configOfBlock (axisAnswer x) = x.config := by
  simp only [AxisState.configLegal, Bool.and_eq_true, decide_eq_true_eq] at legal
  obtain ⟨⟨⟨-, quota⟩, filter⟩, -⟩ := legal
  have quota : x.config.quota ≤ 255 := quota.trans (by decide)
  obtain ⟨active, readback, inverted⟩ := bits_of_three (x.config.activeLevel == .high) x.config.readback x.config.dirInverted
  have enable : (bitAt x.config.enable 0).getLsbD 0 = x.config.enable := by cases x.config.enable <;> rfl
  show AxisConfig.mk _ _ _ _ _ _ = _
  simp only [axisAnswer, levelBit, Vector.getElem_mk, List.getElem_toArray, List.getElem_cons_zero, List.getElem_cons_succ,
    enable, active, readback, inverted, level_beq_high, toNat_natByte_zero quota, toNat_natByte_zero filter]

/-- Settles O36, query by query. -/
theorem queriesAnswerInTheSetPlaces : Obligations.QueriesAnswerInTheSetPlaces := by
  intro s operating
  have prof_exec : exec .profquery s = .next s.applyProfquery := congrArg _ (operating_of_not_inReset s _ operating)
  have gate_exec : exec .gatequery s = .next s.applyGatequery := congrArg _ (operating_of_not_inReset s _ operating)
  refine ⟨fun range legal => ⟨s.applyAxquery, congrArg _ (operating_of_not_inReset s _ operating), rfl, ?_⟩, fun out => ?_,
    fun p number profile use => ?_, fun out => ?_, fun g tag timeout use timer => ?_⟩
  · obtain ⟨low, order, high⟩ := (AxisState.inRange_iff.1 range).limits
    refine ⟨configOfBlock_axisAnswer legal, signed24_of_bytes rfl rfl rfl low (order.trans high),
      signed24_of_bytes rfl rfl rfl (low.trans order) high, fun i hi => ?_⟩
    fin_cases i <;> first | (simp at hi; done) | rfl
  · have none : profileOfByte s.block[0] = none := by simp only [profileOfByte]; rw [dif_neg (by omega)]
    rw [prof_exec, State.applyProfquery, none]; rfl
  · have some := (profileOfByte_eq_some s.block[0] p).2 number
    obtain ⟨-, order, start, length⟩ := profileLegal_iff.1 profile
    refine ⟨{ s with block := profileAnswer s.block[0] (s.prof p) }.result .ok, ?_, rfl, rfl, unsigned16_of_bytes rfl rfl start,
      unsigned16_of_bytes rfl rfl (order.trans start), unsigned16_of_bytes rfl rfl (by omega), toNat_of_byte rfl (by omega),
      fun i hi => ?_⟩
    · rw [prof_exec, State.applyProfquery, some]
    · fin_cases i <;> first | (simp at hi; done) | rfl
  · have none : gateOfTag s.block[0] = none := by
      refine (gateOfTag_eq_none _).2 (out.imp_left fun zero => ?_)
      rw [zero]; rfl
    rw [gate_exec, State.applyGatequery, none]; rfl
  · have some := (gateOfTag_eq_some s.block[0] g).2 tag
    refine ⟨{ s with block := gateAnswer s.block[0] (s.gate g) }.result .ok, ?_, rfl, rfl, ?_,
      unsigned16_of_bytes rfl rfl timeout, ?_, ?_, fun stopped => ?_, fun us running => ?_, toNat_of_byte rfl (by omega), fun i hi => ?_⟩
    · rw [gate_exec, State.applyGatequery, some]
    · exact BitVec.toNat_setWidth_of_le (by decide)
    · exact BitVec.toNat_setWidth_of_le (by decide)
    · cases timer : (s.gate g).timer <;> simp [State.result, gateAnswer, timer, bitAt]
    · show unsigned16 (natByte (timerMs (s.gate g).timer) 0) (natByte (timerMs (s.gate g).timer) 1) = 0
      rw [stopped]; rfl
    · show unsigned16 (natByte (timerMs (s.gate g).timer) 0) (natByte (timerMs (s.gate g).timer) 1) = (us + 999) / 1000
      rw [running] at timer ⊢
      simp only [Option.all_some, decide_eq_true_eq] at timer
      rw [unsigned16_natByte (by simp only [timerMs]; omega)]
      simp only [timerMs]
      omega
    · fin_cases i <;> first | (simp at hi; done) | rfl

end Sys2Proof.Machine
end


section
/-! SUPPORT. Proofs about the port: writes and reads of the register window, the views, the computed lines and the /RESET pin. -/

namespace Sys2Proof.Machine

variable {s : State}

/-! ## Writes to the window (R152, R153, R157, R160, R164) -/

/-- The low three bits of a byte, as IENABLE and IFLAG take them. -/
theorem setWidth_three (v : Byte) : v.setWidth 3 = v.extractLsb' 0 3 := by
  ext i hi
  simp

theorem exec_badCommand {v : Byte} (operating : s.inReset = false) (unknown : v ∉ commandCodes) :
    exec (.badCommand v) s = .next (s.result .badCommand) := by
  show execBadCommand v s = _
  rw [execBadCommand, if_neg (by simpa using unknown), operating_of_not_inReset s _ operating]

theorem exec_iflagWrite (operating : s.inReset = false) (v : Byte) : exec (.iflagWrite v) s = .next (s.clearFlags v) :=
  congrArg _ (operating_of_not_inReset s (·.clearFlags v) operating)

theorem exec_windowWrite {offset : Offset} (operating : s.inReset = false) (cmd : offset ≠ offsetCMD) (iflag : offset ≠ offsetIFLAG)
    (v : Byte) : exec (.windowWrite offset v) s = .next (s.writeLocation offset v) :=
  (if_neg (not_or.2 ⟨cmd, iflag⟩)).trans (congrArg _ (operating_of_not_inReset s (·.writeLocation offset v) operating))

theorem axisOfByte_of_idx {v : Byte} {a : Axis} (h : v.toNat = a.idx.val) : axisOfByte v = some a := by
  have byte : v = BitVec.ofNat 8 a.idx := by rw [← h, BitVec.ofNat_toNat, BitVec.setWidth_eq]
  rw [byte]
  cases a <;> rfl

theorem axisOfByte_of_beyond {v : Byte} (h : 3 < v.toNat) : axisOfByte v = none := by
  have ne (n : Nat) (le : n ≤ 3) : v ≠ BitVec.ofNat 8 n := fun e => by
    rw [e, BitVec.toNat_ofNat] at h
    omega
  exact (if_neg (ne 0 (by omega))).trans ((if_neg (ne 1 (by omega))).trans
    ((if_neg (ne 2 (by omega))).trans (if_neg (ne 3 (by omega)))))

/-- Settles O44, location by location. -/
theorem portWritesChangeOnlyTheirLocation : Obligations.PortWritesChangeOnlyTheirLocation := by
  intro s v offset operating
  have writes {offset : Offset} (cmd : offset ≠ offsetCMD) (iflag : offset ≠ offsetIFLAG) {t : State}
      (h : s.writeLocation offset v = t) : exec (.windowWrite offset v) s = .next t :=
    (exec_windowWrite operating cmd iflag v).trans (congrArg _ h)
  refine ⟨exec_badCommand operating, ?_, writes (by decide) (by decide) ?_, fun a idx => writes (by decide) (by decide) ?_,
    fun beyond => writes (by decide) (by decide) ?_, writes (by decide) (by decide) ?_, fun i => ?_, fun low other => ?_⟩
  · rw [exec_iflagWrite operating, State.clearFlags, setWidth_three]
  · rw [State.writeLocation, if_pos rfl, setWidth_three]
  · rw [State.writeLocation, if_neg (by decide), if_pos rfl, axisOfByte_of_idx idx]; rfl
  · rw [State.writeLocation, if_neg (by decide), if_pos rfl, axisOfByte_of_beyond beyond]; rfl
  · rw [State.writeLocation, if_neg (by decide), if_neg (by decide), if_pos rfl]
  · fin_cases i <;> exact writes (by decide) (by decide) rfl
  · simp only [List.mem_cons, List.not_mem_nil, or_false, not_or] at other
    obtain ⟨cmd, iflag, ienable, axsel, mode⟩ := other
    refine writes cmd iflag ?_
    rw [State.writeLocation, if_neg ienable, if_neg axsel, if_neg mode, dif_neg (by omega)]

/-! ## Reads that act (R123, R131, R132, R161) -/

theorem exec_rdataRead (operating : s.inReset = false) :
    exec .rdataRead s = .next { s with dataOut := s.reportByte, reports := { s.reports with pointer := s.reports.nextPointer } } := by
  show execRdataRead s = _
  simp [execRdataRead, operating]

/-- The eleven bytes of a report in their order (Table 7-1, R131). -/
theorem byte_eq_getD (d : Deposited) {p : Nat} (h : p ≤ 10) :
    d.byte p =
      [d.seq, BitVec.ofNat 8 d.report.axis.idx, d.report.finding.kindCode, d.report.finding.detailCode, d.report.tag,
        (BitVec.ofInt 24 d.report.position).extractLsb' 0 8, (BitVec.ofInt 24 d.report.position).extractLsb' 8 8,
        (BitVec.ofInt 24 d.report.position).extractLsb' 16 8, BitVec.ofNat 8 d.report.aux,
        BitVec.ofNat 8 (d.report.aux / 256), BitVec.ofNat 8 (d.report.aux / 65536)].getD p 0 := by
  interval_cases p
  pick_goal 9 -- the low byte of aux
  · exact natByte_zero _
  all_goals rfl

/-- Settles O45. -/
theorem portReadsLatchAndAdvance : Obligations.PortReadsLatchAndAdvance := by
  intro s operating
  refine ⟨?_, fun empty => ?_, fun d rest reports pointer => ?_, by decide, by decide⟩
  · show execAxpos0Read s = _
    simp [execAxpos0Read, operating, State.latchedPosition, positionWord, wordByte]
  · rw [exec_rdataRead operating, State.reportByte, ReportQueue.nextPointer, empty]
    rfl
  · have next : s.reports.nextPointer = (s.reports.pointer + 1) % 11 := by
      rw [ReportQueue.nextPointer, reports]
      simp only [List.isEmpty_cons, Bool.false_eq_true, if_false]
      split <;> omega
    have byte : s.reportByte = d.byte s.reports.pointer := by rw [State.reportByte, reports]
    rw [exec_rdataRead operating, next, byte, byte_eq_getD d pointer]

/-! ## /RESET (R166) -/

/-- Settles O43: what the reset keeps of an axis is its two pins. -/
theorem hardwareResetHoldsThenReleases : Obligations.HardwareResetHoldsThenReleases := by
  refine fun s => ⟨⟨s.hardReset, rfl, rfl, fun a _ => ax_hardReset s a⟩, fun high => ?_, fun low => ?_⟩
  · exact congrArg _ (if_neg (by simp [high]))
  · refine ⟨s.releaseReset, congrArg _ (if_pos low), rfl, rfl, fun a _ => ax_releaseReset s a⟩

/-! ## The views and the computed lines (R65, R109, R112, R153, R155, R161, R162, R164) -/

/-- /INT is asserted exactly when some flag is set and enabled (R164). -/
theorem intAsserted_iff (s : State) :
    s.intAsserted = true ↔ ∃ i : Fin 3, s.iflag.getLsbD i = true ∧ s.ienable.getLsbD i = true := by
  have some_bit : s.iflag &&& s.ienable ≠ 0 ↔ ∃ i : Fin 3, (s.iflag &&& s.ienable).getLsbD i = true := by
    generalize s.iflag &&& s.ienable = w
    revert w
    decide
  simp only [State.intAsserted, Bool.not_eq_true', beq_eq_false_iff_ne, BitVec.getLsbD_and, Bool.and_eq_true] at some_bit ⊢
  exact some_bit

/-- ENA in terms of the configuration (R112): only a DISABLED axis is not enabled. -/
theorem ena_iff {x : AxisState} (h : x.shaped = true) : x.ena = true ↔ x.config.enable = true ∧ x.cause ≠ .drive := by
  simp only [AxisState.ena, Bool.and_eq_true, bne_iff_ne]
  refine and_congr_left fun _ => ?_
  rw [(AxisState.shape h).enable, bne_iff_ne]

/-- Every result has its code (Table 9-3). -/
theorem result_of_code (r : Result) :
    [Result.ok, .badCommand, .badParam, .axisDisabled, .axisBusy, .noMove, .notHalted, .stopActive, .driveActive, .quotaFull,
      .poolFull, .gateUnset, .gateMember, .gateInUse, .profileInUse, .queueEmpty][r.code.toNat]? = some r := by
  cases r <;> rfl

/-- Every state of an axis has its code (Table 3-2). -/
theorem mode_of_code (m : Mode) :
    [Mode.disabled, .idle, .gated, .accel, .cruise, .decel, .dwelling, .stopping, .reporting, .halted][m.code.toNat]? = some m := by
  cases m <;> rfl

/-- AXCAUSE: the code of the halt cause, and the held move in bit 7 (Table 9-6). -/
theorem causeByte_fields (x : AxisState) :
    [HaltCause.none, .limit, .missed, .seekfail, .abort, .stopLine, .stopCmd, .gateTimeout, .drive][
      (x.causeByte.extractLsb' 0 7).toNat]? = some x.cause ∧
    (x.causeByte.getLsbD 7 = true ↔ x.held ≠ none) := by
  rw [← Option.isSome_iff_ne_none, AxisState.causeByte]
  cases x.cause <;> cases x.held.isSome <;> decide

/-- AXIN: one level or comparison a bit, bits 6 and 7 at 0 (Table 9-6). -/
theorem axinByte_fields (s : State) (x : AxisState) (pins : Readback) :
    ((s.axinByte x pins).getLsbD 0 = true ↔ x.sens.qualified = .high) ∧
    ((s.axinByte x pins).getLsbD 1 = true ↔ x.sens.qualified = x.config.activeLevel) ∧
    ((s.axinByte x pins).getLsbD 2 = true ↔ x.drive.flt.qualified = .high) ∧
    ((s.axinByte x pins).getLsbD 3 = true ↔ s.stop.qualified = .high) ∧
    ((s.axinByte x pins).getLsbD 4 = true ↔ pins.step = .high) ∧
    ((s.axinByte x pins).getLsbD 5 = true ↔ pins.dir = .high) ∧
    (s.axinByte x pins).extractLsb' 6 2 = 0 := by
  obtain ⟨⟨b₀, b₁, b₂, b₃, b₄, b₅⟩, top⟩ := bits_of_six (x.sens.qualified == .high) (x.sens.qualified == x.config.activeLevel)
    (x.drive.flt.qualified == .high) (s.stop.qualified == .high) (pins.step == .high) (pins.dir == .high)
  simp only [State.axinByte, levelBit, b₀, b₁, b₂, b₃, b₄, b₅, top, beq_iff_eq, and_self]

/-- Settles O60, location by location. -/
theorem viewsAndLinesShowTheState : Obligations.ViewsAndLinesShowTheState := by
  refine fun s pins => ⟨intAsserted_iff s, fun a _ shaped => ena_iff (shaped a (Axis.mem_all a)), fun operating => ?_⟩
  have reads : ¬s.inReset = true := by simp [operating]
  have cres : s.readLocation pins 0x01 = s.cres.code := if_neg reads
  have count : s.readLocation pins 0x02 = natByte s.reports.reports.length 0 := if_neg reads
  have pool : s.readLocation pins 0x03 = natByte s.poolFree 0 := if_neg reads
  have iflag : s.readLocation pins 0x04 = s.iflag.setWidth 8 := if_neg reads
  have ienable : s.readLocation pins 0x05 = s.ienable.setWidth 8 := if_neg reads
  have axsel : s.readLocation pins 0x06 = axisByte s.axsel := if_neg reads
  have mode : s.readLocation pins 0x07 = (s.ax s.axsel).mode.code := if_neg reads
  have queue : s.readLocation pins 0x08 = natByte (s.ax s.axsel).queue.length 0 := if_neg reads
  have axin : s.readLocation pins 0x0C = s.axinByte (s.ax s.axsel) pins := if_neg reads
  have cause : s.readLocation pins 0x0E = (s.ax s.axsel).causeByte := if_neg reads
  have style : s.readLocation pins 0x0F = s.style.byte := if_neg reads
  obtain ⟨sens, active, flt, stop, step, dir, top⟩ := axinByte_fields s (s.ax s.axsel) pins
  obtain ⟨code, held⟩ := causeByte_fields (s.ax s.axsel)
  simp only [cres, count, pool, iflag, ienable, axsel, mode, queue, axin, cause, style]
  refine ⟨if_neg reads, result_of_code _, fun few => toNat_natByte_zero (by omega), fun few => toNat_natByte_zero (by omega),
    BitVec.toNat_setWidth_of_le (by decide), BitVec.toNat_setWidth_of_le (by decide), ?_, mode_of_code _,
    fun few => toNat_natByte_zero (by omega), if_neg reads, if_neg reads, sens, active, flt, stop, step, dir, top, code, held, ?_,
    fun i => ?_⟩
  · cases s.axsel <;> rfl
  · cases s.style <;> rfl
  · have stored (k : Nat) (h : k < 16) : s.block.toList.getD k 0 = s.block[k] := by simp [h]
    fin_cases i <;> exact (if_neg reads).trans (stored _ (by decide))

end Sys2Proof.Machine
end


section
/-! SUPPORT. What one event leaves when one axis builds a report at it: the end of its move or its drive fault, with the report
deposited at once or waiting. -/

namespace Sys2Proof.Machine

variable {s : State} {a : Axis} {m : Move}

/-- An axis whose move has ended, all but its report: what the end leaves of the axis depends on this alone. -/
def AxisState.rested (x : AxisState) : AxisState := { x.clearMove with mode := .reporting }

namespace State

/-! ## One axis that offers a report (R50, R127) -/

theorem release_setAx (s : State) (a : Axis) (x : AxisState) (m : Move) : (s.setAx a x).release m = (s.release m).setAx a x := by
  unfold State.release State.modGateUse State.modProfileUse
  split <;> split <;> rfl

/-- A change of the axis that is about to end its move, and that neither offers a report nor owes one. -/
theorem quiet_setAx {x : AxisState} (h : s.Quiet) (offer : x.offer = none) : (s.setAx a x).Quiet := by
  obtain ⟨operating, none, places⟩ := h
  refine ⟨operating, fun b hb => ?_, places⟩
  rw [ax_setAx]
  split
  · exact offer
  · exact none b hb

theorem offer_of_quiet (h : s.Quiet) (b : Axis) : (s.ax b).offer = none := h.2.1 b (Axis.mem_all b)

/-- With one waiting axis, the arbiter's choice is that axis. -/
theorem nextCandidate_of_one (offer : (s.ax a).offer.isSome = true) (others : ∀ b, b ≠ a → (s.ax b).offer = none) :
    s.nextCandidate = some a := by
  cases candidate : s.nextCandidate with
  | none => simp [(nextCandidate_eq_none s).1 candidate a (Axis.mem_all a)] at offer
  | some b =>
    by_cases e : b = a
    · rw [e]
    · simpa [others b e] using offer_of_nextCandidate s candidate

/-- One waiting axis with a place free: after its grant, the other places are granted as the grant leaves the part. -/
theorem settle_of_one_cont {o : Offer} (offer : (s.ax a).offer = some o) (others : ∀ b, b ≠ a → (s.ax b).offer = none)
    (owed : (s.ax a).owed = none) (path : o.path = .cont) (room : s.reports.reports.length < Config.reportPlaces) :
    s.settle = (((s.deposit o.report).modAx a fun x => { x with offer := none }).takeNext a).settle := by
  obtain ⟨n, places⟩ := Nat.exists_eq_add_of_lt room
  have next := nextCandidate_of_one (s := s) (a := a) (by simp [offer]) others
  have length : (s.grant a).reports.reports.length = s.reports.reports.length + 1 := by
    rw [reports_grant offer, deposit_reports]; simp
  rw [← grant_of_cont s a offer owed path, State.settle, State.settle, length,
    show Config.reportPlaces - s.reports.reports.length = n + 1 by omega,
    show Config.reportPlaces - (s.reports.reports.length + 1) = n by omega, State.grantPlaces, next]

/-! ## The end of a move (R47, R50) -/

/-- A deposit and the end of the wait of one axis, as one change of the axis. -/
theorem deposit_endOffer (t : State) (a : Axis) (x : AxisState) (r : Report) :
    ((t.setAx a x).deposit r).modAx a (fun x => { x with offer := none }) = (t.deposit r).setAx a { x with offer := none } := by
  show ((t.deposit r).setAx a x).modAx a _ = _
  rw [State.modAx, ax_setAx_self, setAx_setAx]

/-- A deposit, the end of the wait and the entry into HALTED, as one change of the axis. -/
theorem deposit_enterHalted (t : State) (a : Axis) (x : AxisState) (r : Report) (cause : HaltCause) :
    (((t.setAx a x).deposit r).modAx a fun x => { x with offer := none }).enterHalted a cause =
      ((t.deposit r).setAx a { x with offer := none, mode := .halted, cause := x.cause.enter cause }).latch flagHALT := by
  rw [deposit_endOffer, State.enterHalted, State.modAx, ax_setAx_self, setAx_setAx]

theorem others_endMove (quiet : s.Quiet) (k : Finding) (aux : Nat) (b : Axis) (ne : b ≠ a) :
    ((s.endMove a k aux).ax b).offer = none := by
  rw [ax_endMove_of_ne s a ne]
  exact offer_of_quiet quiet b

theorem reports_endMove (k : Finding) (aux : Nat) : (s.endMove a k aux).reports = s.reports :=
  (Engine.endMove (on := nowhere) s a k aux).reports

section Ends
variable (current : (s.ax a).current = some m) (k : Finding) (aux : Nat)
include current

/-- The end of a move, before any grant, is what it leaves with the Report Queue full. -/
theorem endMove_eq_endedWaiting : s.endMove a k aux = s.endedWaiting a m k aux := by
  rw [endMove_of_some s a current, State.modAx, release_setAx, State.offerReport, State.modAx, setAx_setAx, ax_setAx_self]
  rfl

theorem settle_endMove_of_full (full : Config.reportPlaces ≤ s.reports.reports.length) :
    (s.endMove a k aux).settle = s.endedWaiting a m k aux := by
  rw [settle_of_full _ (by rwa [reports_endMove]), endMove_eq_endedWaiting current]

/-- A move whose end has a HALTED path. -/
theorem settle_endMove_stop (quiet : s.Quiet) (owed : (s.ax a).owed = none) {cause : HaltCause} (path : k.path = .halted cause) :
    (s.endMove a k aux).settle = s.endedStop a m k aux cause := by
  have self := ax_endMove_self s a current k aux
  unfold State.endedStop
  split
  · next room =>
    have keep : (s.ax a).clearMove = { (s.ax a).clearMove with offer := none } :=
      congrArg (fun o => { (s.ax a).clearMove with offer := o }) (offer_of_quiet quiet a)
    rw [settle_of_one_halted _ a (by rw [self]) (others_endMove quiet k aux) (by rw [self]; exact owed) path
      (by rwa [reports_endMove]), endMove_eq_endedWaiting current]
    dsimp only [State.endedHalted]
    rw [keep]
    exact deposit_enterHalted _ a _ _ cause
  · next full => exact settle_endMove_of_full current k aux (by omega)

/-- A move whose end has a CONTINUE path. -/
theorem settle_endMove_goOn (quiet : s.Quiet) (owed : (s.ax a).owed = none) (path : k.path = .cont) :
    (s.endMove a k aux).settle = s.endedGoOn a m k aux := by
  have self := ax_endMove_self s a current k aux
  unfold State.endedGoOn
  split
  · next room =>
    have keep : (s.ax a).clearMove = { (s.ax a).clearMove with offer := none } :=
      congrArg (fun o => { (s.ax a).clearMove with offer := o }) (offer_of_quiet quiet a)
    rw [settle_of_one_cont (by rw [self]) (others_endMove quiet k aux) (by rw [self]; exact owed) path
      (by rwa [reports_endMove]), endMove_eq_endedWaiting current]
    dsimp only [State.endedContinue]
    rw [keep]
    exact congrArg (fun t => (t.takeNext a).settle) (deposit_endOffer _ a _ _)
  · next full => exact settle_endMove_of_full current k aux (by omega)

end Ends

section Rested
variable (s) (a) (m) (x : AxisState) (k : Finding) (aux : Nat)

theorem endedWaiting_setAx :
    (s.setAx a x).endedWaiting a m k aux = (s.release m).setAx a
      { x.rested with
        offer := some
          { report := { axis := a, finding := k, tag := m.tag, position := x.rested.position, aux := aux }, path := k.path } } := by
  dsimp only [State.endedWaiting]
  rw [ax_setAx_self, release_setAx]
  exact setAx_setAx _ a _ _

theorem endedHalted_setAx (cause : HaltCause) :
    (s.setAx a x).endedHalted a m k aux cause =
      (((s.release m).deposit { axis := a, finding := k, tag := m.tag, position := x.rested.position, aux := aux }).setAx a
        { x.rested with mode := .halted, cause := x.rested.cause.enter cause }).latch flagHALT := by
  dsimp only [State.endedHalted]
  rw [ax_setAx_self, release_setAx]
  show ((((s.release m).deposit _).setAx a x).setAx a _).latch flagHALT = _
  rw [setAx_setAx]
  rfl

theorem endedContinue_setAx :
    (s.setAx a x).endedContinue a m k aux =
      ((((s.release m).deposit { axis := a, finding := k, tag := m.tag, position := x.rested.position, aux := aux }).setAx a
        x.rested).takeNext a).settle := by
  dsimp only [State.endedContinue]
  rw [ax_setAx_self, release_setAx]
  show (((((s.release m).deposit _).setAx a x).setAx a _).takeNext a).settle = _
  rw [setAx_setAx]
  rfl

variable {x} {y : AxisState} (same : x.rested = y.rested)
include same

theorem endedStop_congr (cause : HaltCause) :
    (s.setAx a x).endedStop a m k aux cause = (s.setAx a y).endedStop a m k aux cause := by
  unfold State.endedStop
  rw [endedHalted_setAx, endedWaiting_setAx, endedHalted_setAx, endedWaiting_setAx, same]
  rfl

theorem endedGoOn_congr : (s.setAx a x).endedGoOn a m k aux = (s.setAx a y).endedGoOn a m k aux := by
  unfold State.endedGoOn
  rw [endedContinue_setAx, endedWaiting_setAx, endedContinue_setAx, endedWaiting_setAx, same]
  rfl

end Rested

/-- The end of the move of an axis that has just changed, in a part that is quiet but for the change. -/
theorem settle_setAx_endMove_stop {x : AxisState} (quiet : s.Quiet) (current : x.current = some m) (offer : x.offer = none)
    (owed : x.owed = none) (k : Finding) (aux : Nat) {cause : HaltCause} (path : k.path = .halted cause) :
    ((s.setAx a x).endMove a k aux).settle = (s.setAx a x).endedStop a m k aux cause :=
  settle_endMove_stop (by rwa [ax_setAx_self]) k aux (quiet_setAx quiet offer) (by rwa [ax_setAx_self]) path

theorem settle_setAx_endMove_goOn {x : AxisState} (quiet : s.Quiet) (current : x.current = some m) (offer : x.offer = none)
    (owed : x.owed = none) (k : Finding) (aux : Nat) (path : k.path = .cont) :
    ((s.setAx a x).endMove a k aux).settle = (s.setAx a x).endedGoOn a m k aux :=
  settle_endMove_goOn (by rwa [ax_setAx_self]) k aux (quiet_setAx quiet offer) (by rwa [ax_setAx_self]) path

/-! ## A drive fault that ends no move (R115, R117, R50) -/

/-- The DRIVEFAULT that an axis with cause DRIVE offers for the fault alone, before any grant. -/
theorem offerReport_fault (x : AxisState) (d : DriveDetail) (tag : Byte) :
    (s.setAx a { x with cause := .drive }).offerReport a (.driveFault d) tag 0 = s.faultedWaiting a x d tag := by
  rw [State.offerReport, State.modAx, setAx_setAx, ax_setAx_self]
  rfl

/-- That DRIVEFAULT, deposited at once or waiting. -/
theorem settle_faultedWaiting (quiet : s.Quiet) {x : AxisState} (offer : x.offer = none) (owed : x.owed = none) (d : DriveDetail)
    (tag : Byte) : (s.faultedWaiting a x d tag).settle = s.faulted a x d tag := by
  have self : (s.faultedWaiting a x d tag).ax a = _ := ax_setAx_self s a _
  unfold State.faulted
  split
  · next room =>
    rw [settle_of_one_halted _ a (by rw [self]) (fun b ne => ?_) (by rw [self]; exact owed) rfl (by exact room)]
    · refine (deposit_enterHalted s a _ _ .drive).trans ?_
      have keep : x = { x with offer := none } := congrArg (fun o => { x with offer := o }) offer
      dsimp only [State.faultedAlone]
      rw [keep]
      rfl
    · exact (congrArg AxisState.offer (ax_setAx_of_ne s ne _)).trans (offer_of_quiet quiet b)
  · next full => exact settle_of_full _ (by show Config.reportPlaces ≤ s.reports.reports.length; omega)

theorem faultedAlone_setAx (x y : AxisState) (d : DriveDetail) (tag : Byte) :
    (s.setAx a y).faultedAlone a x d tag = s.faultedAlone a x d tag := by
  show (((s.deposit _).setAx a y).setAx a _).latch flagHALT = _
  rw [setAx_setAx]
  rfl

theorem faultedWaiting_setAx (x y : AxisState) (d : DriveDetail) (tag : Byte) :
    (s.setAx a y).faultedWaiting a x d tag = s.faultedWaiting a x d tag := setAx_setAx s a y _

/-- What a fault leaves of its axis is said whole. -/
theorem faulted_setAx (x y : AxisState) (d : DriveDetail) (tag : Byte) :
    (s.setAx a y).faulted a x d tag = s.faulted a x d tag := by
  unfold State.faulted
  rw [faultedAlone_setAx, faultedWaiting_setAx]
  rfl

end State
end Sys2Proof.Machine
end


section
/-! SUPPORT. Proofs about POST and takes: what an accepted move leaves of the pool and the tables, the starts, the arrival at a gate, and
the limit check. -/

namespace Sys2Proof.Machine

variable {s : State} {a : Axis} {m : Move}

/-! ## The acceptance of a move (R10, R11) -/

/-- The part with a slot and the use counts taken for a move that its axis takes at once. -/
def State.accepted (s : State) (m : Move) : State := (s.allocate m).result .ok

@[simp] theorem ax_accepted (a : Axis) : (s.accepted m).ax a = s.ax a := ax_allocate s a m

theorem accepted_setAx (x : AxisState) :
    (s.accepted m).setAx a x = { s.allocate m with cres := .ok, axes := s.axes.set a.idx x } := by
  show { s.allocate m with cres := .ok, axes := (s.allocate m).axes.set a.idx x } = _
  rw [allocate_axes]

theorem reports_accepted : (s.accepted m).reports = s.reports := by
  show (s.allocate m).reports = _
  rw [allocate_eq]

theorem nothingToGrant_accepted (h : s.NothingToGrant) : (s.accepted m).NothingToGrant := by
  refine h.imp (fun none b hb => ?_) fun full => ?_
  · rw [ax_accepted]; exact none b hb
  · rw [reports_accepted]; exact full

theorem quiet_accepted (h : s.Quiet) : (s.accepted m).Quiet := by
  obtain ⟨operating, none, places⟩ := h
  refine ⟨?_, fun b hb => ?_, ?_⟩
  · show (s.allocate m).inReset = _
    rw [allocate_eq]; exact operating
  · rw [ax_accepted]; exact none b hb
  · rw [reports_accepted]; exact places

theorem modAx_result (s : State) (a : Axis) (f : AxisState → AxisState) (r : Result) :
    (s.result r).modAx a f = (s.modAx a f).result r := rfl

/-- The step decided on a profile does not depend on its use count. -/
theorem decide_accepted (p : ProfileNo) (k r : Nat) : ((s.accepted m).prof p).decide k r = (s.prof p).decide k r := by
  show ((s.allocate m).prof p).decide k r = _
  rw [prof_allocate]
  split <;> rfl

/-- A move that ends at its take gives back what it took. -/
theorem release_accepted (h : s.poolFree ≠ 0) : (s.accepted m).release m = s.result .ok := by
  have profiles : ((s.accepted m).release m).profiles = s.profiles := Vector.ext fun i hi => by
    show ((s.accepted m).release m).prof ⟨i, hi⟩ = s.prof ⟨i, hi⟩
    rw [prof_release]
    show (if _ then { (s.allocate m).prof _ with useCount := ((s.allocate m).prof _).useCount - 1 } else (s.allocate m).prof _) = _
    rw [prof_allocate]
    split <;> rfl
  have gates : ((s.accepted m).release m).gates = s.gates := Vector.ext fun i hi => by
    show ((s.accepted m).release m).gate ⟨i, hi⟩ = s.gate ⟨i, hi⟩
    rw [gate_release]
    show (if _ then { (s.allocate m).gate _ with useCount := ((s.allocate m).gate _).useCount - 1 } else (s.allocate m).gate _) = _
    rw [gate_allocate]
    split <;> rfl
  have pool : ((s.accepted m).release m).poolFree = s.poolFree := by
    rw [release_poolFree]
    show (s.allocate m).poolFree + 1 = _
    rw [allocate_poolFree]; omega
  rw [release_eq, profiles, gates, pool, State.accepted, allocate_eq]
  rfl

theorem exec_post_of_accepts (h : s.Accepts m) : exec .post s = .next (s.acceptMove m) := by
  obtain ⟨operating, enabled, record, member, quota, pool⟩ := h
  have passes : s.postRefusal m = none := by
    rw [postRefusal_of_gate_passes member, if_neg (by omega), if_neg pool]
  rw [exec_post operating, State.applyPost, if_neg enabled, record]
  simp only [passes]

theorem acceptMove_of_not_idle (h : (s.ax s.axsel).mode ≠ .idle) :
    s.acceptMove m =
      { s.allocate m with
        cres := .ok
        axes := s.axes.set s.axsel.idx { s.ax s.axsel with queue := (s.ax s.axsel).queue ++ [m] } } := by
  rw [State.acceptMove_eq, if_neg h, ← accepted_setAx]
  show ((s.allocate m).modAx _ _).result .ok = _
  rw [State.modAx, ax_allocate]
  rfl

/-- An IDLE axis takes the posted move itself. -/
theorem exec_post_of_idle (h : s.Accepts m) (idle : (s.ax s.axsel).mode = .idle) (queue : (s.ax s.axsel).queue = []) :
    exec .post s = .next ((s.accepted m).take s.axsel m).settle := by
  have tail : ((s.posted m).ax s.axsel).queue = m :: [] := by
    rw [State.ax_posted, if_pos rfl, queue]
    rfl
  have same : ((s.posted m).modAx s.axsel fun x => { x with queue := [] }) = s.accepted m := by
    have keep : { s.ax s.axsel with queue := [] } = s.ax s.axsel := congrArg (fun q => { s.ax s.axsel with queue := q }) queue.symm
    rw [State.posted, modAx_result, modAx_modAx, State.modAx, ax_allocate, keep, ← ax_allocate s s.axsel m, setAx_ax]
    rfl
  rw [exec_post_of_accepts h, State.acceptMove_eq, if_pos idle, takeNext_of_cons tail, same]

/-- Settles O25. -/
theorem postAppendsOrIsTaken : Obligations.PostAppendsOrIsTaken := by
  intro s m accepts
  refine ⟨fun moving => ?_, fun idle queue => exec_post_of_idle accepts idle queue, allocate_poolFree s m, fun p => ?_, fun g => ?_⟩
  · rw [exec_post_of_accepts accepts, acceptMove_of_not_idle moving]
  · rw [prof_allocate]
    split <;> rfl
  · rw [gate_allocate]
    split <;> rfl

end Sys2Proof.Machine
end


section
/-! SUPPORT. Proofs about takes and starts: the table of starts, the run of an ungated move, the arrival at a gate, and the move
whose end lies outside the soft limits. -/

namespace Sys2Proof.Machine

variable {s : State} {a : Axis} {m : Move}

/-! ## Starts (R42) -/

/-- The level of DIR that a displacement asks for (R111). -/
theorem dirLevel_dirOf (inverted : Bool) (d : Int) :
    dirLevel inverted (dirOf d) = if (0 < d) ↔ (inverted = false) then .high else .low := by
  by_cases pos : 0 < d <;> cases inverted <;> simp [dirLevel, dirOf, pos]

/-- DIR is driven at once or, with STEP high, due (R111). -/
theorem driveDir_eq (d : DriveCheck) (level : Level) :
    d.driveDir level =
      if d.stepHigh = none then { d with dir := level, dirDue := none, dirPin := level } else { d with dirDue := some level } := by
  unfold DriveCheck.driveDir
  cases d.stepHigh <;> rfl

/-- The window of a move with distance (R92). -/
theorem armed_of_mark {t : Task} {v d : Int} {p : ProfileNo} {mark : Option MarkPart}
    (h : t = .absolute v p mark ∨ t = .relative d p mark) :
    t.armed =
      { MarkItems.empty with
        window := if mark = none then .unarmed else if mark.any (·.start == 0) then .opened else .waiting } := by
  rcases h with rfl | rfl <;> cases mark <;> simp [Task.armed, MarkItems.empty]

section Starts
variable (current : (s.ax a).current = some m)
include current

theorem startMove_of_dwell {ms : Nat} (task : m.task = .dwell ms) : s.startMove a = s.modAx a (·.startDwell ms) := by
  simp only [State.startMove, current, task]

theorem startMove_of_seek {v : Int} {p : ProfileNo} {z : Bool} (task : m.task = .seek v p z) :
    s.startMove a =
      if (s.ax a).sens.qualified = (s.ax a).config.activeLevel then
        (s.modAx a fun x => { x with position := if z then 0 else x.position }).endMove a (.done .atOnce) 0
      else s.modAx a (·.startRun (s.prof p) p m.task v) := by
  simp only [State.startMove, current, task]

theorem startMove_of_target {v d e : Int} {p : ProfileNo} {mark : Option MarkPart}
    (task : m.task = .absolute v p mark ∨ m.task = .relative d p mark) (plan : (s.ax a).plannedEnd = some e) :
    s.startMove a =
      if e - (s.ax a).position = 0 then s.endMove a (if mark.isSome then .missed .planned else .done .plain) 0
      else s.modAx a (·.startRun (s.prof p) p m.task (e - (s.ax a).position)) := by
  rcases task with task | task <;> simp only [State.startMove, current, task, plan, Option.getD_some]

end Starts

/-- Settles O28, kind by kind. -/
theorem startsFollowTheTable : Obligations.StartsFollowTheTable := by
  intro s a m current
  refine ⟨fun ms task => startMove_of_dwell current task, fun v p mark task still => ?_, fun v p z task => ⟨fun active => ?_, fun inactive => ?_⟩⟩
  · rw [startMove_of_target current task still, if_pos (Int.sub_self _)]
    cases mark <;> rfl
  · rw [startMove_of_seek current task, if_pos active]
    rfl
  · rw [startMove_of_seek current task, if_neg inactive, State.modAx, AxisState.startRun, driveDir_eq, dirLevel_dirOf, task]
    rfl

/-! ## Takes (R39, R40) -/

theorem limitCheck_eq {x : AxisState} {t : Task} {e : Int} (plan : t.plannedEnd x.position = some e) :
    x.limitCheck t = if e < x.limitMin then some .min else if x.limitMax < e then some .max else none := by
  rw [AxisState.limitCheck, plan]

section Inside
variable (inside : ∀ e, m.task.plannedEnd (s.ax a).position = some e → (s.ax a).limitMin ≤ e ∧ e ≤ (s.ax a).limitMax)
include inside

/-- A planned end inside the limits, or none, passes the limit check (R40). -/
theorem limitCheck_of_inside : ((s.modAx a (·.taking m)).ax a).limitCheck m.task = none := by
  rw [ax_modAx_self]
  cases plan : m.task.plannedEnd (s.ax a).position with
  | none => simp only [AxisState.limitCheck, AxisState.taking, plan]
  | some e =>
    obtain ⟨low, high⟩ := inside e plan
    rw [limitCheck_eq (x := (s.ax a).taking m) plan]
    exact (if_neg low.not_gt).trans (if_neg high.not_gt)

theorem take_of_ungated (gate : m.gate = none) : s.take a m = (s.setAx a ((s.ax a).taking m)).startMove a := by
  simp only [State.take_eq, limitCheck_of_inside inside, gate]
  rfl

theorem take_of_gated {g : GateTag} (gate : m.gate = some g) : s.take a m = (s.setAx a ((s.ax a).taking m)).arrive a g := by
  simp only [State.take_eq, limitCheck_of_inside inside, gate]
  rfl

end Inside

/-- A take that fails the limit check (R40). -/
theorem take_of_outside {e : Int} (plan : m.task.plannedEnd (s.ax a).position = some e)
    (outside : e < (s.ax a).limitMin ∨ (s.ax a).limitMax < e) :
    s.take a m = (s.modAx a (·.taking m)).endMove a (.limit (if e < (s.ax a).limitMin then .min else .max)) 0 := by
  have fails : ((s.modAx a (·.taking m)).ax a).limitCheck m.task = some (if e < (s.ax a).limitMin then .min else .max) := by
    rw [ax_modAx_self, limitCheck_eq (x := (s.ax a).taking m) plan]
    show (if e < (s.ax a).limitMin then some LimitDetail.min else if (s.ax a).limitMax < e then some .max else none) = _
    split
    · rfl
    · next low => exact if_pos (outside.resolve_left low)
  rw [State.take_eq, fails]

/-- Settles O26: the take passes the limit check, and its start is a run. -/
theorem ungatedMoveWithDistanceStarts : Obligations.UngatedMoveWithDistanceStarts := by
  intro s m e p mark accepts nothing ⟨idle, queue, _⟩ gate task low high distance
  have plan : m.task.plannedEnd (s.ax s.axsel).position = some e := by
    rcases task with task | task <;> rw [task]
    · rfl
    · exact congrArg some (by omega)
  have inside (e' : Int) (h : m.task.plannedEnd (s.ax s.axsel).position = some e') :
      (s.ax s.axsel).limitMin ≤ e' ∧ e' ≤ (s.ax s.axsel).limitMax := by
    rw [plan] at h
    exact Option.some.inj h ▸ ⟨low, high⟩
  have self := ax_setAx_self (s.accepted m) s.axsel ((s.ax s.axsel).taking m)
  have start := startMove_of_target (s := (s.accepted m).setAx s.axsel ((s.ax s.axsel).taking m)) (a := s.axsel) (m := m)
    (by rw [self]; rfl) task (by rw [self]; exact plan)
  have ne : e - (s.ax s.axsel).position ≠ 0 := by omega
  rw [self] at start
  rw [exec_post_of_idle accepts idle queue, take_of_ungated (by rw [ax_accepted]; exact inside) gate, ax_accepted]
  refine congrArg _ ((congrArg State.settle (start.trans (if_neg ne))).trans ?_)
  rw [State.modAx, setAx_setAx, self, prof_setAx, settle_of_nothingToGrant, accepted_setAx]
  · rw [AxisState.startRun, decide_accepted, driveDir_eq, dirLevel_dirOf, armed_of_mark task, dirOf, AxisState.taking, plan]
    simp only [sub_pos]
  · exact nothingToGrant_setAx (nothingToGrant_accepted nothing) (by rw [ax_accepted]; rfl)

/-- Settles O29: the arrival at the gate, and its firing where the set is complete. -/
theorem gatedMoveArrivesAtItsGate : Obligations.GatedMoveArrivesAtItsGate := by
  intro s m g accepts nothing ⟨idle, queue, _⟩ gate inside q arrived
  have same : ((s.accepted m).setAx s.axsel ((s.ax s.axsel).taking m).arrived).modGate g (·.arrive s.axsel) = arrived := by
    rw [accepted_setAx]
    rfl
  have arrive : (s.accepted m).take s.axsel m = if (arrived.gate g).complete then arrived.fireGate g else arrived := by
    have there : ((s.accepted m).setAx s.axsel ((s.ax s.axsel).taking m)).modAx s.axsel AxisState.arrived =
        (s.accepted m).setAx s.axsel ((s.ax s.axsel).taking m).arrived := by
      rw [State.modAx, ax_setAx_self, setAx_setAx]
    rw [take_of_gated (by rw [ax_accepted]; exact inside) gate, ax_accepted, ← same, ← there]
    rfl
  have now : arrived.gate g = q.arrive s.axsel := Vector.getElem_set_self _
  have complete : (arrived.gate g).complete = true ↔ q.arrivals ||| axisBit s.axsel = q.members := by
    have member : q.members ≠ 0 := by
      have members : q.members = (s.gate g).members := by
        show ((s.allocate m).gate g).members = _
        rw [gate_allocate]
        split <;> rfl
      rw [members]
      exact ne_zero_of_inSet (accepts.2.2.2.1 g gate)
    simp only [now, Gate.complete, Gate.arrive, Bool.and_eq_true, beq_iff_eq, Bool.not_eq_true', beq_eq_false_iff_ne, and_iff_left member]
  rw [exec_post_of_idle accepts idle queue, arrive]
  refine ⟨fun waits => ?_, fun fires => ?_⟩
  · rw [if_neg (by rwa [complete])]
    refine congrArg _ (settle_of_nothingToGrant ?_)
    rw [← same]
    exact nothingToGrant_setAx (nothingToGrant_accepted nothing) (by rw [ax_accepted]; rfl)
  · rw [if_pos (complete.2 fires)]

/-! ## The limit check (R40) -/

/-- A move that ends at its take leaves nothing of the take. -/
theorem endedWaiting_taking (k : Finding) (aux : Nat) :
    (s.modAx a (·.taking m)).endedWaiting a m k aux = s.endedWaiting a m k aux := by
  refine (State.endedWaiting_setAx s a m _ k aux).trans ((State.endedWaiting_setAx s a m (s.ax a) k aux).symm.trans ?_)
  rw [setAx_ax]

theorem endedStop_taking (k : Finding) (aux : Nat) (cause : HaltCause) :
    (s.modAx a (·.taking m)).endedStop a m k aux cause = s.endedStop a m k aux cause := by
  refine (State.endedStop_congr s a m k aux (x := (s.ax a).taking m) (y := s.ax a) rfl cause).trans ?_
  rw [setAx_ax]

/-- A move whose end lies outside the limits ends at its take (R40, R49). -/
theorem settle_take_outside {e : Int} (quiet : s.Quiet) (owed : (s.ax a).owed = none)
    (plan : m.task.plannedEnd (s.ax a).position = some e) (outside : e < (s.ax a).limitMin ∨ (s.ax a).limitMax < e) :
    (s.take a m).settle = s.endedStop a m (.limit (if e < (s.ax a).limitMin then .min else .max)) 0 .limit := by
  have self := ax_modAx_self s a (·.taking m)
  rw [take_of_outside plan outside, State.settle_endMove_stop (s := s.modAx a (·.taking m)) (m := m) (by rw [self]; rfl) _ _
    (State.quiet_setAx (x := (s.ax a).taking m) quiet (State.offer_of_quiet quiet a)) (by rw [self]; exact owed) rfl, endedStop_taking]

/-- POST of a move whose end lies outside the limits: its slot and its use counts are as before (R13). -/
theorem exec_post_outside {e : Int} (accepts : s.Accepts m) (free : (s.ax s.axsel).Free) (quiet : s.Quiet)
    (plan : m.task.plannedEnd (s.ax s.axsel).position = some e)
    (outside : e < (s.ax s.axsel).limitMin ∨ (s.ax s.axsel).limitMax < e) :
    exec .post s = .next
      ((s.accepted m).endedStop s.axsel m (.limit (if e < (s.ax s.axsel).limitMin then .min else .max)) 0 .limit) := by
  obtain ⟨idle, queue, owed⟩ := free
  rw [exec_post_of_idle accepts idle queue,
    settle_take_outside (quiet_accepted quiet) (by rw [ax_accepted]; exact owed) (by rw [ax_accepted]; exact plan)
      (by rw [ax_accepted]; exact outside), ax_accepted]

/-- Settles O27: each path makes its take, and the take ends the move. -/
theorem moveOutsideLimitsEndsAtTake : Obligations.MoveOutsideLimitsEndsAtTake := by
  intro s a m e plan outside finding
  have take : s.take a m = s.endedWaiting a m finding 0 := by
    rw [take_of_outside plan outside, State.endMove_eq_endedWaiting (m := m) (by rw [ax_modAx_self]; rfl), endedWaiting_taking]
  refine ⟨take, fun rest queue => ?_, fun quiet owed => settle_take_outside quiet owed plan outside, fun sel accepts free => ⟨fun clear => ?_, fun full => ?_⟩,
    fun operating sel halted stop drive quiet owed => ⟨fun held => ?_, fun rest held queue => ?_⟩⟩
  · have self := ax_setAx_self s a { s.ax a with queue := rest }
    rw [takeNext_of_cons queue]
    show (s.setAx a { s.ax a with queue := rest }).take a m = _
    rw [take_of_outside (e := e) (by rw [self]; exact plan) (by rw [self]; exact outside), self,
      State.endMove_eq_endedWaiting (m := m) (by rw [ax_modAx_self]; rfl), endedWaiting_taking]
  · subst sel
    obtain ⟨operating, none, room⟩ := clear
    rw [exec_post_outside accepts free ⟨operating, none, room.le⟩ plan outside, State.endedStop,
      if_pos (by rwa [reports_accepted])]
    dsimp only [State.endedHalted]
    rw [release_accepted accepts.2.2.2.2.2, ax_accepted]
    rfl
  · subst sel
    obtain ⟨operating, none, length⟩ := full
    rw [exec_post_outside accepts free ⟨operating, none, length.le⟩ plan outside, State.endedStop,
      if_neg (by rw [reports_accepted]; exact length.not_lt)]
    dsimp only [State.endedWaiting]
    rw [release_accepted accepts.2.2.2.2.2, ax_accepted]
    rfl
  · subst sel
    have self := ax_resumed (s := s)
    have resumed : s.resumed.Quiet := State.quiet_setAx (x := (s.ax s.axsel).resumed) quiet (State.offer_of_quiet quiet _)
    rw [exec_resume operating, applyResume_of_held halted stop drive held, settle_take_outside (e := e) resumed
      (by rw [self]; exact owed) (by rw [self]; exact plan) (by rw [self]; exact outside), self]
    rfl
  · subst sel
    have self := ax_setAx_self s s.axsel { s.ax s.axsel with cause := .none, queue := rest }
    have resumed : (s.setAx s.axsel { s.ax s.axsel with cause := .none, queue := rest }).Quiet :=
      State.quiet_setAx quiet (State.offer_of_quiet quiet _)
    rw [exec_resume operating, applyResume_of_no_held halted stop drive held, resumed_takeNext_of_cons held queue,
      settle_take_outside (e := e) (by exact resumed) (by rw [ax_result, self]; exact owed) (by rw [ax_result, self]; exact plan)
        (by rw [ax_result, self]; exact outside), ax_result, self]
    rfl

end Sys2Proof.Machine
end


section
/-! SUPPORT. Proofs about stops of one axis: the re-plans of a controlled stop, ABORT and the expiry of a dwell. -/

namespace Sys2Proof.Machine

variable {s : State} {a : Axis} {m : Move}

namespace State

/-! ## Re-plans (R28, R29) -/

/-- The step that a re-plan to a count decides. -/
def decided (s : State) (a : Axis) (r : Nat) : PendingStep := (s.prof (s.ax a).ramp.profile).decide (s.ax a).ramp.k r

/-- The axis with a remaining count and the step decided from it. -/
def planned (s : State) (a : Axis) (r : Nat) : State :=
  s.setAx a { s.ax a with ramp := { (s.ax a).ramp with r := r, step := some (s.decided a r) } }

theorem replanNow_of_early {r : Nat} (pos : 0 < r) (early : (s.ax a).ramp.elapsed < (s.decided a r).interval) :
    s.replanNow a r = s.planned a r := by
  rw [replanNow_of_pos s a pos early, replan_of_pos s a pos]
  rfl

theorem replanNow_of_late {r : Nat} (pos : 0 < r) (late : (s.decided a r).interval ≤ (s.ax a).ramp.elapsed) :
    s.replanNow a r = (s.planned a r).pulse a := by
  have overdue : (((s.planned a r).ax a).ramp.overdue) = true := by
    rw [planned, ax_setAx_self]
    simpa [Ramp.overdue] using late
  rw [State.replanNow, replan_of_pos s a pos]
  exact if_pos overdue

theorem overdue_endMove (current : (s.ax a).current = some m) (k : Finding) (aux : Nat) :
    ((s.endMove a k aux).ax a).ramp.overdue = false := by
  rw [ax_endMove_self s a current]
  rfl

theorem endAtRest_of_intent {k : Finding} (stopping : (s.ax a).mode = .stopping) (intent : (s.ax a).intent = some k) :
    s.endAtRest a = s.endMove a k (s.ax a).ramp.stepsRun := by
  simp only [State.endAtRest, stopping, intent]

theorem endAtRest_of_running (running : (s.ax a).mode ≠ .stopping) (current : (s.ax a).current = some m) :
    s.endAtRest a = s.endMove a ((s.ax a).plannedFinding m).1 ((s.ax a).plannedFinding m).2 := by
  unfold State.endAtRest
  dsimp only
  split
  · next stopping _ => exact absurd stopping running
  · next there _ => rw [Option.some.inj (current.symm.trans there)]
  · next there _ => simp [current] at there

/-- The axis with nothing left to run. -/
def atRest (s : State) (a : Axis) : State := s.setAx a { s.ax a with ramp := { (s.ax a).ramp with r := 0, step := none } }

theorem ax_atRest : (s.atRest a).ax a = { s.ax a with ramp := { (s.ax a).ramp with r := 0, step := none } } :=
  ax_setAx_self s a _

/-- A re-plan that leaves nothing to run ends the move (R28). -/
theorem replanNow_zero {k : Finding} {aux : Nat} (current : (s.ax a).current = some m)
    (ends : (s.atRest a).endAtRest a = (s.atRest a).endMove a k aux) : s.replanNow a 0 = (s.atRest a).endMove a k aux := by
  rw [State.replanNow, replan_zero]
  refine (if_neg ?_).trans ends
  show ¬((((s.atRest a).endAtRest a).ax a).ramp.overdue) = true
  rw [ends, overdue_endMove (m := m) (by rw [ax_atRest]; exact current)]
  simp

/-! ## Stops under control (R29, R45) -/

/-- The axis in STOPPING with an intent. -/
def stopping (s : State) (a : Axis) (k : Finding) : State := s.setAx a { s.ax a with mode := .stopping, intent := some k }

theorem controlledStop_eq (s : State) (a : Axis) (k : Finding) :
    s.controlledStop a (some k) = (s.stopping a k).replanNow a (s.ax a).ramp.stoppingDistance := by
  have self : (s.stopping a k).ax a = { s.ax a with mode := .stopping, intent := some k } := ax_setAx_self s a _
  show (s.stopping a k).replanNow a ((s.stopping a k).ax a).ramp.stoppingDistance = _
  rw [self]

/-- What a stop under control asks of its axis, its stopping distance not 0. -/
def stoppingPlan (s : State) (a : Axis) (k : Finding) : State :=
  s.setAx a
    { s.ax a with
      mode := .stopping, intent := some k
      ramp := { (s.ax a).ramp with r := (s.ax a).ramp.stoppingDistance, step := some (s.decided a (s.ax a).ramp.stoppingDistance) } }

theorem planned_stopping (k : Finding) : (s.stopping a k).planned a (s.ax a).ramp.stoppingDistance = s.stoppingPlan a k := by
  simp only [planned, stopping, decided, ax_setAx_self, setAx_setAx, prof_setAx, stoppingPlan]

theorem controlledStop_of_early {k : Finding} (pos : 0 < (s.ax a).ramp.stoppingDistance)
    (early : (s.ax a).ramp.elapsed < (s.decided a (s.ax a).ramp.stoppingDistance).interval) :
    s.controlledStop a (some k) = s.stoppingPlan a k := by
  rw [controlledStop_eq, replanNow_of_early pos, planned_stopping]
  simpa only [stopping, decided, ax_setAx_self, prof_setAx] using early

theorem controlledStop_of_late {k : Finding} (pos : 0 < (s.ax a).ramp.stoppingDistance)
    (late : (s.decided a (s.ax a).ramp.stoppingDistance).interval ≤ (s.ax a).ramp.elapsed) :
    s.controlledStop a (some k) = (s.stoppingPlan a k).pulse a := by
  rw [controlledStop_eq, replanNow_of_late pos, planned_stopping]
  simpa only [stopping, decided, ax_setAx_self, prof_setAx] using late

/-- A stop under control with nothing left to run ends the move with the report of its intent (R45). -/
theorem controlledStop_zero {k : Finding} (current : (s.ax a).current = some m) (zero : (s.ax a).ramp.stoppingDistance = 0) :
    s.controlledStop a (some k) = ((s.stopping a k).atRest a).endMove a k (s.ax a).ramp.stepsRun := by
  have self : (s.stopping a k).ax a = { s.ax a with mode := .stopping, intent := some k } := ax_setAx_self s a _
  have rest := ax_atRest (s := s.stopping a k) (a := a)
  rw [self] at rest
  rw [controlledStop_eq, zero]
  refine replanNow_zero (m := m) (by rw [self]; exact current) ?_
  rw [endAtRest_of_intent (k := k) (by rw [rest]) (by rw [rest]), rest]

theorem settle_controlledStop_zero {k : Finding} {cause : HaltCause} (current : (s.ax a).current = some m) (quiet : s.Quiet)
    (owed : (s.ax a).owed = none) (zero : (s.ax a).ramp.stoppingDistance = 0) (path : k.path = .halted cause) :
    (s.controlledStop a (some k)).settle = (s.atRest a).endedStop a m k (s.ax a).ramp.stepsRun cause := by
  have offer := offer_of_quiet quiet a
  have there : (s.stopping a k).atRest a =
      s.setAx a { s.ax a with
        mode := .stopping, intent := some k, ramp := { (s.ax a).ramp with r := 0, step := none } } := by
    rw [atRest, stopping, ax_setAx_self, setAx_setAx]
  rw [controlledStop_zero current zero, there, settle_setAx_endMove_stop quiet (by exact current) (by exact offer) (by exact owed) _ _ path]
  exact endedStop_congr s a m k _ (by rfl) cause

end State

/-! ## ABORT (R145) -/

theorem exec_abort (h : s.inReset = false) : exec .abort s = .next s.applyAbort :=
  congrArg _ (operating_of_not_inReset s State.applyAbort h)

theorem applyAbort_of_running (h : (s.ax s.axsel).mode.running = true) :
    s.applyAbort = ((s.result .ok).controlledStop s.axsel (some (.aborted .running))).settle := by
  rw [State.applyAbort]
  rcases running_iff.1 h with mode | mode | mode <;> simp only [mode]

/-- Settles O30. -/
theorem abortStopsARunningMove : Obligations.AbortStopsARunningMove := by
  intro s m operating running current x n next stopping
  have plan : (s.result .ok).stoppingPlan s.axsel (.aborted .running) = stopping := rfl
  rw [exec_abort operating, applyAbort_of_running running]
  refine ⟨fun pos nothing early => ?_, fun pos late => ?_, fun zero quiet owed => ?_⟩
  · rw [State.controlledStop_of_early (s := s.result .ok) pos early, plan, settle_of_nothingToGrant]
    rw [← plan]
    exact nothingToGrant_setAx (s := s.result .ok) nothing rfl
  · rw [State.controlledStop_of_late (s := s.result .ok) pos late, plan]
  · exact congrArg _ (State.settle_controlledStop_zero (s := s.result .ok) current quiet owed zero rfl)

/-- Settles O31, state by state. -/
theorem abortElsewhereFollowsItsTable : Obligations.AbortElsewhereFollowsItsTable := by
  intro s operating
  rw [exec_abort operating]
  refine ⟨fun stopping => ?_, fun no_move => ?_, fun m current quiet owed => ⟨fun dwelling => ?_, fun g gated gate => ?_⟩⟩
  · simp only [State.applyAbort, stopping]; rfl
  · rcases no_move with mode | mode | mode | mode <;> simp only [State.applyAbort, mode] <;> rfl
  · simp only [State.applyAbort, dwelling]
    exact congrArg _ (State.settle_endMove_stop (s := s.result .ok) current _ _ quiet owed rfl)
  · simp only [State.applyAbort, gated]
    rw [State.withdraw_of_gate (s := s.result .ok) current gate]
    exact congrArg _ (State.settle_endMove_stop (s := (s.result .ok).modGate g (·.withdraw s.axsel)) current _ _ quiet owed rfl)

/-! ## The expiry of a dwell (R31, R46) -/

/-- Settles O51. -/
theorem dwellExpiryReportsDone : Obligations.DwellExpiryReportsDone := by
  intro s a m dwelling current owed
  have expiry (operating : s.inReset = false) : exec (.dwellExpiry a) s = .next (s.endMove a (.done .plain) 0).settle :=
    congrArg _ ((operating_of_not_inReset s _ operating).trans (if_pos dwelling))
  refine ⟨fun clear => ?_, fun full => ?_⟩
  · rw [expiry clear.1, State.settle_endMove_goOn current _ _ (quiet_iff s |>.2 (.inl clear)) owed rfl, endedGoOn_of_clear s a m clear]
  · rw [expiry full.1, State.settle_endMove_goOn current _ _ (quiet_iff s |>.2 (.inr full)) owed rfl, endedGoOn_of_full s a m full]

end Sys2Proof.Machine
end


section
/-! SUPPORT. Proofs about drive faults: what a fault leaves in each state of its axis, /FLT assertions, readback samples, the end of the high
time, and the edges and acceptances that only qualify. -/

namespace Sys2Proof.Machine

variable {s : State} {a : Axis} {m : Move}

namespace State

/-! ## A drive fault by the state of its axis (R115 to R118) -/

theorem driveFault_of_disabled (h : (s.ax a).mode = .disabled) (d : DriveDetail) : s.driveFault a d = s := by
  simp only [State.driveFault, h]

theorem driveFault_of_reporting (h : (s.ax a).mode = .reporting) (d : DriveDetail) :
    s.driveFault a d = s.setAx a { s.ax a with cause := .drive, owed := some ((s.ax a).owed.getD d) } := by
  have fault : s.driveFault a d = s.modAx a fun x => { x with cause := .drive, owed := some (x.owed.getD d) } := by
    simp only [State.driveFault, h, modAx_modAx]
  exact fault

theorem driveFault_of_idle (idle : (s.ax a).mode = .idle) (d : DriveDetail) :
    s.driveFault a d = s.faultedWaiting a (s.ax a) d 0 := by
  have fault : s.driveFault a d = (s.modAx a fun x => { x with cause := .drive }).offerReport a (.driveFault d) 0 0 := by
    simp only [State.driveFault, idle]
  rw [fault, ← offerReport_fault]
  rfl

theorem driveFault_of_halted (halted : (s.ax a).mode = .halted) (d : DriveDetail) :
    s.driveFault a d = s.faultedWaiting a (s.ax a) d (((s.ax a).held.map (·.tag)).getD 0) := by
  have fault : s.driveFault a d =
      (s.modAx a fun x => { x with cause := .drive }).offerReport a (.driveFault d) (((s.ax a).held.map (·.tag)).getD 0) 0 := by
    simp only [State.driveFault, halted]
  rw [fault, ← offerReport_fault]
  rfl

/-- The move of a GATED axis is withdrawn and held (R79, R82). -/
theorem driveFault_of_gated {g : GateTag} (d : DriveDetail) (gated : (s.ax a).mode = .gated) (current : (s.ax a).current = some m)
    (gate : m.gate = some g) :
    s.driveFault a d =
      (s.modGate g (·.withdraw a)).faultedWaiting a { s.ax a with held := some m, current := none, plannedEnd := none } d m.tag := by
  have fault : s.driveFault a d =
      ((s.modGate g (·.withdraw a)).modAx a fun x =>
        { x with held := x.current, current := none, plannedEnd := none, cause := .drive }).offerReport a
        (.driveFault d) m.tag 0 := by
    simp only [State.driveFault, gated, current, Option.map_some, Option.getD_some]
    rw [withdraw_modAx rfl, withdraw_of_gate current gate, modAx_modAx]
    rfl
  rw [fault, State.modAx, ax_modGate, current, ← offerReport_fault]

section Quiet
variable (quiet : s.Quiet) (owed : (s.ax a).owed = none) (d : DriveDetail)
include quiet owed

theorem settle_driveFault_of_moving (moving : (s.ax a).mode.running = true ∨ (s.ax a).mode = .stopping)
    (current : (s.ax a).current = some m) :
    (s.driveFault a d).settle =
      (s.setAx a { s.ax a with cause := .drive }).endedStop a m (.driveFault d) (s.ax a).ramp.stepsRun .drive := by
  have fault : s.driveFault a d = (s.modAx a fun x => { x with cause := .drive }).endMove a (.driveFault d) (s.ax a).ramp.stepsRun := by
    rw [running_iff] at moving
    rcases moving with (mode | mode | mode) | mode <;> simp only [State.driveFault, mode]
  rw [fault, State.modAx, settle_setAx_endMove_stop quiet (by exact current) (by exact offer_of_quiet quiet a) (by exact owed) _ _ rfl]

theorem settle_driveFault_of_dwelling (dwelling : (s.ax a).mode = .dwelling) (current : (s.ax a).current = some m) :
    (s.driveFault a d).settle = (s.setAx a { s.ax a with cause := .drive }).endedStop a m (.driveFault d) 0 .drive := by
  have fault : s.driveFault a d = (s.modAx a fun x => { x with cause := .drive }).endMove a (.driveFault d) 0 := by
    simp only [State.driveFault, dwelling]
  rw [fault, State.modAx, settle_setAx_endMove_stop quiet (by exact current) (by exact offer_of_quiet quiet a) (by exact owed) _ _ rfl]

theorem settle_driveFault_of_idle (idle : (s.ax a).mode = .idle) : (s.driveFault a d).settle = s.faulted a (s.ax a) d 0 := by
  rw [driveFault_of_idle idle, settle_faultedWaiting quiet (offer_of_quiet quiet a) owed]

theorem settle_driveFault_of_halted (halted : (s.ax a).mode = .halted) :
    (s.driveFault a d).settle = s.faulted a (s.ax a) d (((s.ax a).held.map (·.tag)).getD 0) := by
  rw [driveFault_of_halted halted, settle_faultedWaiting quiet (offer_of_quiet quiet a) owed]

theorem settle_driveFault_of_gated {g : GateTag} (gated : (s.ax a).mode = .gated) (current : (s.ax a).current = some m)
    (gate : m.gate = some g) :
    (s.driveFault a d).settle =
      (s.modGate g (·.withdraw a)).faulted a { s.ax a with held := some m, current := none, plannedEnd := none } d m.tag := by
  rw [driveFault_of_gated d gated current gate]
  exact settle_faultedWaiting (s := s.modGate g (·.withdraw a)) quiet (by exact offer_of_quiet quiet a) (by exact owed) d m.tag

end Quiet

end State

/-! ## Acceptances of /FLT (R114) -/

theorem accept_eq {f : FilteredInput} {level : Level} (pin : f.pin = level) :
    f.accept = { pin := level, qualified := level, count := none } := by
  rw [FilteredInput.accept, pin]

/-- The axis with a level of /FLT accepted. -/
def AxisState.withFlt (x : AxisState) (level : Level) : AxisState :=
  { x with drive := { x.drive with flt := { pin := level, qualified := level, count := none } } }

theorem acceptFlt_eq {level : Level} (pin : (s.ax a).drive.flt.pin = level) :
    s.acceptFlt a = s.setAx a ((s.ax a).withFlt level) := by
  rw [State.acceptFlt, State.modAx, accept_eq pin]
  rfl

theorem exec_fltAssertion (operating : s.inReset = false) (counting : (s.ax a).drive.flt.counting .low = true) :
    exec (.fltAssertion a) s = .next ((s.setAx a ((s.ax a).withFlt .low)).driveFault a .driverInput).settle := by
  have pin := State.pin_of_counting counting
  refine congrArg _ ((operating_of_not_inReset s _ operating).trans ((if_pos counting).trans ?_))
  rw [State.takeFlt, if_pos pin, acceptFlt_eq pin]

/-- Settles O58, state by state. -/
theorem fltAssertionIsADriveFault : Obligations.FltAssertionIsADriveFault := by
  intro s a operating shaped counting x accepted y
  have self : (s.setAx a accepted).ax a = accepted := ax_setAx_self s a _
  have owed (h : x.mode ≠ .reporting) : ((s.setAx a accepted).ax a).owed = none := by
    rw [self]; exact (AxisState.shape (shaped a (Axis.mem_all a))).owed h
  have mode {w : Mode} (h : x.mode = w) : ((s.setAx a accepted).ax a).mode = w := by rw [self]; exact h
  have current {m : Move} (h : x.current = some m) : ((s.setAx a accepted).ax a).current = some m := by rw [self]; exact h
  have fault : exec (.fltAssertion a) s = .next ((s.setAx a accepted).driveFault a .driverInput).settle :=
    exec_fltAssertion operating counting
  rw [fault]
  refine ⟨fun disabled nothing => ?_, fun quiet => ?_⟩
  · rw [State.driveFault_of_disabled (mode disabled), settle_of_nothingToGrant]
    exact nothingToGrant_setAx nothing rfl
  have quiet : (s.setAx a accepted).Quiet := State.quiet_setAx quiet (State.offer_of_quiet quiet a)
  refine ⟨fun m there => ⟨fun moving => ?_, fun dwelling => ?_, fun g gated gate => ?_⟩, fun idle => ?_, fun halted => ?_⟩
  · rw [State.settle_driveFault_of_moving quiet (owed (by rcases moving with h | h <;> intro e <;> rw [e] at h <;> cases h)) _
      (by rw [self]; exact moving) (current there), self, setAx_setAx]
  · rw [State.settle_driveFault_of_dwelling quiet (owed (by simp [dwelling])) _ (mode dwelling) (current there), self, setAx_setAx]
  · rw [State.settle_driveFault_of_gated quiet (owed (by simp [gated])) _ (mode gated) (current there) gate, self]
    exact congrArg _ (State.faulted_setAx (s := s.modGate g (·.withdraw a)) _ accepted _ _)
  · rw [State.settle_driveFault_of_idle quiet (owed (by simp [idle])) _ (mode idle), self]
    exact congrArg _ (State.faulted_setAx accepted accepted _ _)
  · rw [State.settle_driveFault_of_halted quiet (owed (by simp [halted])) _ (mode halted), self]
    exact congrArg _ (State.faulted_setAx accepted accepted _ _)

end Sys2Proof.Machine
end


section
/-! SUPPORT. Proofs about the drive outputs and the acceptances that only qualify: the end of the high time, the readback sample,
trailing edges, deassertions, and AXCONFIG with the examination at an enable. -/

namespace Sys2Proof.Machine

variable {s : State} {a : Axis} {m : Move}

/-! ## The end of the high time (R110, R111) -/

theorem endHigh_eq (d : DriveCheck) :
    d.endHigh =
      { d with
        stepHigh := none, stepPin := .low, dirDue := none, dir := d.dirDue.getD d.dir, dirPin := d.dirDue.getD d.dirPin } := by
  unfold DriveCheck.endHigh
  split
  · next due => rw [due]; rfl
  · next due => rw [due]; rfl

theorem exec_stepHighTimeEnd (operating : s.inReset = false) (high : (s.ax a).drive.stepHigh ≠ none) :
    exec (.stepHighTimeEnd a) s = .next (s.modAx a fun x => { x with drive := x.drive.endHigh }) :=
  congrArg _ ((operating_of_not_inReset s _ operating).trans (if_pos (Option.isSome_iff_ne_none.2 high)))

/-! ## The readback sample (R113) -/

/-- The part with an outstanding sample taken. -/
def State.sampled (s : State) (a : Axis) (step dir : Level) : State :=
  s.setAx a { s.ax a with drive := { (s.ax a).drive with stepPin := step, dirPin := dir, sample := none } }

section Sample
variable {q : Sample} {step dir : Level} (operating : s.inReset = false) (sample : (s.ax a).drive.sample = some q)
include operating sample

theorem exec_readbackSample_of_match (same : q.fault step dir = none) :
    exec (.readbackSample a step dir) s = .next (s.sampled a step dir) := by
  refine congrArg _ ((operating_of_not_inReset s _ operating).trans ?_)
  simp only [State.takeSample, sample, same]
  rfl

theorem exec_readbackSample_of_fault {d : DriveDetail} (fault : q.fault step dir = some d) :
    exec (.readbackSample a step dir) s = .next ((s.sampled a step dir).driveFault a d).settle := by
  refine congrArg _ ((operating_of_not_inReset s _ operating).trans ?_)
  simp only [State.takeSample, sample, fault]
  rfl

end Sample

theorem fault_of_mismatch {q : Sample} {step dir : Level} {d : DriveDetail}
    (h : step = .low ∧ d = .readbackStep ∨ step = .high ∧ dir ≠ q.dir ∧ d = .readbackDir) : q.fault step dir = some d := by
  rcases h with ⟨rfl, rfl⟩ | ⟨rfl, differs, rfl⟩
  · rfl
  · rw [Sample.fault, if_neg (by simp), if_neg differs]

/-- Settles O50: the sample is taken, and a mismatch is a fault by the state of its axis. -/
theorem highTimeAndSampleFollowThePulse : Obligations.HighTimeAndSampleFollowThePulse := by
  intro s a step dir operating
  refine ⟨fun high => ⟨_, exec_stepHighTimeEnd operating high, ?_⟩, fun q sample => ?_⟩
  · beta_reduce
    rw [ax_modAx_self]
    exact ⟨rfl, rfl, endHigh_eq _⟩
  intro read
  refine ⟨fun step_high dir_same => ?_, fun d mismatch => ?_⟩
  · exact exec_readbackSample_of_match operating sample (by rw [step_high, dir_same, Sample.fault, if_neg (by simp), if_pos rfl])
  intro x y faulty
  have fault : exec (.readbackSample a step dir) s = .next (read.driveFault a d).settle :=
    exec_readbackSample_of_fault operating sample (fault_of_mismatch mismatch)
  have self : read.ax a = { s.ax a with drive := { (s.ax a).drive with stepPin := step, dirPin := dir, sample := none } } :=
    ax_setAx_self s a _
  have mode {w : Mode} (h : x.mode = w) : (read.ax a).mode = w := by rw [self]; exact h
  rw [fault]
  refine ⟨fun disabled nothing => ?_, fun reporting full => ?_, fun quiet owed => ?_⟩
  · rw [State.driveFault_of_disabled (mode disabled), settle_of_nothingToGrant]
    exact nothingToGrant_setAx nothing rfl
  · rw [State.driveFault_of_reporting (mode reporting), settle_of_full _ (by exact full.ge)]
    refine congrArg (fun o : Option DriveDetail => Host.Outcome.next (read.setAx a { y with cause := .drive, owed := some (o.getD d) })) ?_
    rw [self]
  have quiet : read.Quiet := State.quiet_setAx quiet (State.offer_of_quiet quiet a)
  have owed : (read.ax a).owed = none := by rw [self]; exact owed
  have ran : (read.ax a).ramp.stepsRun = x.ramp.stepsRun := by rw [self]
  have held : (read.ax a).held = x.held := by rw [self]
  refine ⟨fun m there => ?_, fun idle => ?_, fun halted => ?_⟩
  · have current : (read.ax a).current = some m := by rw [self]; exact there
    refine ⟨fun moving => ?_, fun dwelling => ?_, fun g gated gate => ?_⟩
    · rw [State.settle_driveFault_of_moving quiet owed d (by rw [self]; exact moving) current, ran]
    · rw [State.settle_driveFault_of_dwelling quiet owed d (mode dwelling) current]
    · rw [State.settle_driveFault_of_gated quiet owed d (mode gated) current gate]
      rfl
  · rw [State.settle_driveFault_of_idle quiet owed d (mode idle)]
  · rw [State.settle_driveFault_of_halted quiet owed d (mode halted), held]

/-! ## Trailing edges and deassertions (R89, R97, R114, R137) -/

/-- A trailing edge writes the width alone (R97). -/
theorem trailingEdge_eq (s : State) (a : Axis) :
    s.trailingEdge a = s.setAx a
      { s.ax a with
        mark :=
          { (s.ax a).mark with
            width :=
              if (s.ax a).mode.running = true ∧ (s.ax a).mark.width = .counting ∧
                ((s.ax a).current.bind (·.task.mark?)).isSome = true then .ended else (s.ax a).mark.width } } := by
  unfold State.trailingEdge
  dsimp only
  by_cases ends : (s.ax a).mode.running = true ∧ (s.ax a).mark.width = .counting ∧
    ((s.ax a).current.bind (·.task.mark?)).isSome = true
  · rw [if_pos ends, if_pos (by tauto)]
    rfl
  · rw [if_neg ends, if_neg (by tauto)]
    exact (setAx_ax s a).symm

theorem exec_trailingEdge (operating : s.inReset = false)
    (counting : (s.ax a).sens.counting (otherLevel (s.ax a).config.activeLevel) = true) :
    exec (.trailingEdge a) s = .next ((s.modAx a fun x => { x with sens := x.sens.accept }).trailingEdge a).settle := by
  have pin := State.pin_of_counting counting
  refine congrArg _ ((operating_of_not_inReset s _ operating).trans ((if_pos counting).trans ?_))
  rw [State.takeSens, State.acceptSens]
  refine congrArg State.settle (if_neg ?_)
  rw [ax_modAx_self]
  show ¬(s.ax a).sens.pin = (s.ax a).config.activeLevel
  rw [pin]
  exact State.otherLevel_ne _

/-- Settles O57. -/
theorem trailingEdgesAndDeassertionsOnlyQualify : Obligations.TrailingEdgesAndDeassertionsOnlyQualify := by
  intro s a operating nothing
  refine ⟨fun counting => ?_, fun counting => ?_, fun counting => ?_⟩
  · rw [exec_trailingEdge operating counting, trailingEdge_eq, ax_modAx_self, State.modAx, setAx_setAx, settle_of_nothingToGrant]
    · rfl
    · exact nothingToGrant_setAx nothing rfl
  · have pin := State.pin_of_counting counting
    refine congrArg _ ((operating_of_not_inReset s _ operating).trans ((if_pos counting).trans ?_))
    rw [State.takeFlt, if_neg (by simp [pin]), acceptFlt_eq pin]
    rfl
  · have pin := State.pin_of_counting counting
    refine congrArg _ ((operating_of_not_inReset s _ operating).trans ((if_pos counting).trans ?_))
    rw [State.takeStop]
    rw [if_neg (by simp [pin]), accept_eq pin]

/-! ## AXCONFIG (R62, R63, R90) -/

theorem exec_axconfig (operating : s.inReset = false) : exec .axconfig s = .next s.applyAxconfig :=
  congrArg _ (operating_of_not_inReset s State.applyAxconfig operating)

/-- The configuration takes its new values: what AXCONFIG writes of its axis (R62, R63, R90, R113). -/
theorem configure_eq (x : AxisState) (c : AxisConfig) :
    x.configure c =
      { x with
        config := c
        mode := if c.enable = false then .disabled else if x.mode = .disabled then .idle else x.mode
        cause := if c.enable = false then .none else x.cause
        sens := if x.sens.due c.filter then { x.sens with qualified := x.sens.pin, count := none } else x.sens
        drive := { x.drive with sample := if c.enable = true ∧ c.readback = true then x.drive.sample else none } } := by
  cases enable : c.enable <;> simp [AxisState.configure, enable, FilteredInput.accept]

section Axconfig
variable (free : ¬((s.ax s.axsel).mode.busy = true ∨
  (s.ax s.axsel).mode = .halted ∧ ((s.ax s.axsel).queue ≠ [] ∨ (s.ax s.axsel).held.isSome = true)))
include free

theorem applyAxconfig_of_illegal (illegal : (configOfBlock s.block).quota = 0 ∨ Config.maxQuota < (configOfBlock s.block).quota) :
    s.applyAxconfig = s.result .badParam := by
  simp only [State.applyAxconfig, if_neg free, if_pos illegal]

theorem applyAxconfig_of_legal (legal : ¬((configOfBlock s.block).quota = 0 ∨ Config.maxQuota < (configOfBlock s.block).quota)) :
    s.applyAxconfig =
      if (s.ax s.axsel).mode = .disabled ∧ (configOfBlock s.block).enable = true then (s.configured.examine s.axsel).settle
      else s.configured := by
  simp only [State.applyAxconfig, if_neg free, if_neg legal]
  rfl

end Axconfig

end Sys2Proof.Machine
end


section
/-! SUPPORT. Proofs about AXCONFIG: what it writes, and the examination of /STOP and /FLT at an enable. -/

namespace Sys2Proof.Machine

variable {s : State} {a : Axis}

/-! ## The examination at an enable (R63, R67) -/

namespace State

theorem examine_of_stop_high (high : ¬s.stop.qualified = .low) :
    State.examine a s = if (s.ax a).drive.flt.qualified = .low then s.driveFault a .driverInput else s := by
  have stays : (if s.stop.qualified = .low ∧ (s.ax a).mode = .idle then s.enterHalted a .stopLine else s) = s :=
    if_neg fun low => high low.1
  rw [State.examine, stays]

theorem examine_of_stop_low (low : s.stop.qualified = .low) (idle : (s.ax a).mode = .idle) :
    State.examine a s =
      if (s.ax a).drive.flt.qualified = .low then (s.enterHalted a .stopLine).driveFault a .driverInput
      else s.enterHalted a .stopLine := by
  have stops : (if s.stop.qualified = .low ∧ (s.ax a).mode = .idle then s.enterHalted a .stopLine else s) =
      s.enterHalted a .stopLine := if_pos ⟨low, idle⟩
  rw [State.examine, stops, ax_enterHalted_self]

/-- What the examination of an IDLE axis with /FLT low offers. -/
theorem examine_of_flt_low (idle : (s.ax a).mode = .idle) (flt : (s.ax a).drive.flt.qualified = .low) :
    State.examine a s =
      (if s.stop.qualified = .low then s.latch flagHALT else s).faultedWaiting a (s.ax a) .driverInput
        (if s.stop.qualified = .low then ((s.ax a).held.map (·.tag)).getD 0 else 0) := by
  by_cases low : s.stop.qualified = .low
  · rw [examine_of_stop_low low idle, if_pos flt, driveFault_of_halted (by rw [ax_enterHalted_self]), ax_enterHalted_self,
      if_pos low, if_pos low]
    exact faultedWaiting_setAx (s := s.latch flagHALT) _ _ _ _
  · rw [examine_of_stop_high low, if_pos flt, driveFault_of_idle idle, if_neg low, if_neg low]

end State

/-- A second HALT latched on the way leaves the flags as they are. -/
theorem latched_twice (flags : BitVec 3) : flags ||| flagHALT ||| flagREPORT ||| flagHALT = flags ||| flagREPORT ||| flagHALT := by
  revert flags
  decide

/-- Settles O35: the checks in order, the write, and the examination of an enabled axis. -/
theorem axconfigWritesTheConfiguration : Obligations.AxconfigWritesTheConfiguration := by
  intro s operating x c y busy legal
  have written : s.configured = (s.result .ok).setAx s.axsel y := by
    rw [State.configured, State.modAx, configure_eq]
    rfl
  have self : s.configured.ax s.axsel = y := by rw [State.ax_configured, if_pos rfl, configure_eq]
  have passes (h : ¬busy) : ¬(x.mode.busy = true ∨ x.mode = .halted ∧ (x.queue ≠ [] ∨ x.held.isSome = true)) := by
    rw [Option.isSome_iff_ne_none]
    simpa only [busy, not_and_or] using h
  have legal_iff : ¬((configOfBlock s.block).quota = 0 ∨ Config.maxQuota < (configOfBlock s.block).quota) ↔ legal := by
    show _ ↔ 1 ≤ (configOfBlock s.block).quota ∧ (configOfBlock s.block).quota ≤ 32
    simp only [Config.maxQuota, not_or]
    omega
  have not_busy (disabled : x.mode = .disabled) : ¬busy := by simp [busy, disabled, Mode.busy]
  have enabled (disabled : x.mode = .disabled) (enable : c.enable = true) (ok : legal) :
      exec .axconfig s = .next (s.configured.examine s.axsel).settle := by
    rw [exec_axconfig operating, applyAxconfig_of_legal (passes (not_busy disabled)) (legal_iff.2 ok)]
    exact congrArg _ (if_pos ⟨disabled, enable⟩)
  have idle (disabled : x.mode = .disabled) (enable : c.enable = true) : (s.configured.ax s.axsel).mode = .idle := by
    rw [self]
    simp [y, disabled, enable]
  have flt : (s.configured.ax s.axsel).drive.flt = x.drive.flt := by rw [self]
  have held : (s.configured.ax s.axsel).held = x.held := by rw [self]
  have cause (enable : c.enable = true) : (s.configured.ax s.axsel).cause = x.cause := by
    rw [self]
    simp [y, enable]
  have nothing_after (nothing : s.NothingToGrant) : s.configured.NothingToGrant := by
    rw [written]
    exact nothingToGrant_setAx nothing (x := y) rfl
  refine ⟨fun is_busy => ?_, fun free illegal => ?_, fun free ok stays => ?_, fun disabled enable ok nothing =>
    ⟨fun stop flt_high => ?_, fun stop flt_high => ?_, fun clear owed flt_low => ?_⟩, fun disabled enable ok full flt_low => ?_⟩
  · refine (exec_axconfig operating).trans (congrArg _ (if_pos ?_))
    rw [Option.isSome_iff_ne_none]
    simpa only [busy, not_and_or] using is_busy
  · rw [exec_axconfig operating, applyAxconfig_of_illegal (passes free) (not_not.1 (legal_iff.not.2 illegal))]
    rfl
  · rw [exec_axconfig operating, applyAxconfig_of_legal (passes free) (legal_iff.2 ok)]
    refine congrArg _ ((if_neg ?_).trans written)
    rintro ⟨disabled, enable⟩
    rcases stays with there | off
    · exact there disabled
    · simp [c, enable] at off
  · rw [enabled disabled enable ok, State.examine_of_stop_high (by show ¬s.stop.qualified = _; simp [stop]), flt,
      if_neg (by simp [flt_high]), settle_of_nothingToGrant (nothing_after nothing), written]
    rfl
  · rw [enabled disabled enable ok, State.examine_of_stop_low (s := s.configured) stop (idle disabled enable), flt, if_neg (by simp [flt_high]),
      settle_of_nothingToGrant]
    · rw [State.enterHalted, State.modAx, cause enable, self, written, setAx_setAx]
      rfl
    · exact nothingToGrant_setAx (nothing_after nothing) rfl
  · obtain ⟨operating, none, room⟩ := clear
    have quiet : s.configured.Quiet := by
      rw [written]
      exact State.quiet_setAx (s := s.result .ok) ⟨operating, none, room.le⟩ (none _ (Axis.mem_all _))
    rw [enabled disabled enable ok, State.examine_of_flt_low (idle disabled enable) (by rw [flt]; exact flt_low),
      State.settle_faultedWaiting (by split <;> exact quiet) (by rw [self]; exact none _ (Axis.mem_all _)) (by rw [self]; exact owed), held, self,
      State.faulted, if_pos (by split <;> exact room), show s.configured.stop = s.stop from rfl, written]
    by_cases stop : s.stop.qualified = .low
    · simp only [if_pos stop]
      refine congrArg _ ((State.faultedAlone_setAx (s := (s.result .ok).latch flagHALT) y y _ _).trans ?_)
      dsimp only [State.faultedAlone]
      rw [deposit_iflag, latch_iflag, latched_twice]
      rfl
    · simp only [if_neg stop]
      exact congrArg _ (State.faultedAlone_setAx (s := s.result .ok) y y _ _)
  · rw [enabled disabled enable ok, State.examine_of_flt_low (idle disabled enable) (by rw [flt]; exact flt_low),
      settle_of_full _ (by split <;> exact full.2.2.ge), held, self, show s.configured.stop = s.stop from rfl, written]
    intro stopped configured
    have stopped_iff : stopped = true ↔ s.stop.qualified = .low := by simp [stopped]
    have latched : configured = if s.stop.qualified = .low then (s.result .ok).latch flagHALT else s.result .ok := by
      simp only [configured, stopped_iff]
      split <;> rfl
    simp only [latched, stopped_iff]
    by_cases stop : s.stop.qualified = .low
    · simp only [if_pos stop]
      exact congrArg _ (State.faultedWaiting_setAx (s := (s.result .ok).latch flagHALT) y y _ _)
    · simp only [if_neg stop]
      exact congrArg _ (State.faultedWaiting_setAx (s := s.result .ok) y y _ _)

end Sys2Proof.Machine
end


section
/-! SUPPORT. Proofs about pulses: the last pulse of a move, and a pulse that more steps follow. -/

namespace Sys2Proof.Machine

variable {s : State} {a : Axis} {m : Move} {st : PendingStep}

theorem exec_stepPulse (operating : s.inReset = false) (step : (s.ax a).ramp.step = some st) :
    exec (.stepPulse a) s = .next (s.pulse a).settle :=
  congrArg _ ((operating_of_not_inReset s _ operating).trans (if_pos (by rw [step]; rfl)))

/-- The part with the pulse of its axis counted. -/
def State.emitted (s : State) (a : Axis) (st : PendingStep) : State := s.setAx a ((s.ax a).emit st)

@[simp] theorem ax_emitted : (s.emitted a st).ax a = (s.ax a).emit st := ax_setAx_self s a _

/-! ## The report at a move's planned end (R44, R96, R98, R104) -/

theorem finding_of_not_found {μ : MarkItems} (h : μ.window ≠ .found) (n : Nat) : μ.finding n = (.missed .planned, n) := by
  unfold MarkItems.finding
  split
  · next found => exact absurd found h
  all_goals rfl

/-- A mark that was found ends its move with a CONTINUE path (R49). -/
theorem path_finding_of_found {μ : MarkItems} (h : μ.window = .found) (n : Nat) : (μ.finding n).1.path = .cont := by
  unfold MarkItems.finding
  rw [h]
  dsimp only
  split <;> rfl

theorem found_afterPulse (μ : MarkItems) (part : Option MarkPart) (n : Nat) :
    (μ.afterPulse part n).window = .found ↔ μ.window = .found := by
  rcases part with _ | w
  · rfl
  · cases window : μ.window <;> simp only [MarkItems.afterPulse, window] <;> split <;> simp

theorem plannedFinding_plain {x : AxisState} {v : Int} {p : ProfileNo}
    (task : m.task = .absolute v p none ∨ m.task = .relative v p none) : x.plannedFinding m = (.done .plain, 0) := by
  rcases task with task | task <;> simp only [AxisState.plannedFinding, task]

theorem plannedFinding_mark {x : AxisState} {v : Int} {p : ProfileNo} {w : MarkPart}
    (task : m.task = .absolute v p (some w) ∨ m.task = .relative v p (some w)) :
    x.plannedFinding m = x.mark.finding x.ramp.stepsRun := by
  rcases task with task | task <;> simp only [AxisState.plannedFinding, task]

theorem plannedFinding_of_found {x : AxisState} {v : Int} {p : ProfileNo} {z : Bool} (task : m.task = .seek v p z)
    (search : x.mark.search = .found) : x.plannedFinding m = (.done .edge, x.mark.edgeSteps) := by
  simp only [AxisState.plannedFinding, task, search]

theorem plannedFinding_of_armed {x : AxisState} {v : Int} {p : ProfileNo} {z : Bool} (task : m.task = .seek v p z)
    (search : x.mark.search = .armed) : x.plannedFinding m = (.seekfail, x.ramp.stepsRun) := by
  simp only [AxisState.plannedFinding, task, search]

section Running
variable {x : AxisState} (running : x.mode ≠ .stopping)
include running

theorem emit_mark : (x.emit st).mark = x.mark.afterPulse (x.current.bind (·.task.mark?)) (x.ramp.stepsRun + 1) := if_neg running

theorem found_emit : (x.emit st).mark.window = .found ↔ x.mark.window = .found := by
  rw [emit_mark running]
  exact found_afterPulse _ _ _

/-- A pulse leaves an edge search as it is. -/
theorem search_emit : (x.emit st).mark.search = x.mark.search ∧ (x.emit st).mark.edgeSteps = x.mark.edgeSteps := by
  rw [emit_mark running]
  exact ⟨rfl, rfl⟩

theorem mode_emit : (x.emit st).mode ≠ .stopping := by
  show (if x.mode = .stopping then Mode.stopping else st.cls.mode) ≠ .stopping
  rw [if_neg running]
  cases st.cls <;> simp [StepClass.mode]

end Running

/-! ## The last pulse (R24, R44, R45) -/

theorem pulse_of_last (step : (s.ax a).ramp.step = some st) (last : (s.ax a).ramp.r = 1) :
    s.pulse a = (s.emitted a st).endAtRest a := by
  have none_left : ((s.emitted a st).ax a).ramp.r = 0 := by
    rw [ax_emitted]
    show (s.ax a).ramp.r - 1 = 0
    omega
  simp only [State.pulse, step]
  exact if_pos none_left

section Last
variable (owed : (s.ax a).owed = none) (current : (s.ax a).current = some m) (step : (s.ax a).ramp.step = some st)
  (last : (s.ax a).ramp.r = 1) {k : Finding} {aux : Nat}
  (ends : (s.emitted a st).endAtRest a = (s.emitted a st).endMove a k aux)
include current step last ends

theorem exec_stepPulse_full (full : s.Full) : exec (.stepPulse a) s = .next ((s.emitted a st).endedWaiting a m k aux) := by
  rw [exec_stepPulse full.1 step, pulse_of_last step last, ends]
  exact congrArg _ (State.settle_endMove_of_full (s := s.emitted a st) (by rw [ax_emitted]; exact current) k aux full.2.2.ge)

include owed

theorem exec_stepPulse_stop (clear : s.Clear) {cause : HaltCause} (path : k.path = .halted cause) :
    exec (.stepPulse a) s = .next ((s.emitted a st).endedHalted a m k aux cause) := by
  have quiet := (quiet_iff s).2 (.inl clear)
  rw [exec_stepPulse clear.1 step, pulse_of_last step last, ends]
  exact congrArg _ ((State.settle_setAx_endMove_stop quiet (by exact current) (by exact State.offer_of_quiet quiet a) (by exact owed) k aux path).trans
    (if_pos clear.2.2))

theorem exec_stepPulse_goOn (clear : s.Clear) (path : k.path = .cont) :
    exec (.stepPulse a) s = .next ((s.emitted a st).endedContinue a m k aux) := by
  have quiet := (quiet_iff s).2 (.inl clear)
  rw [exec_stepPulse clear.1 step, pulse_of_last step last, ends]
  exact congrArg _ ((State.settle_setAx_endMove_goOn quiet (by exact current) (by exact State.offer_of_quiet quiet a) (by exact owed) k aux path).trans
    (if_pos clear.2.2))

end Last

/-- Settles O47: the report of the end by the state and the kind, each deposited at once or waiting. -/
theorem lastPulseEndsTheMove : Obligations.LastPulseEndsTheMove := by
  intro s a m st owed current step last pulsed n μ
  have intent {k : Finding} (stopping : (s.ax a).mode = .stopping) (there : (s.ax a).intent = some k) :
      (s.emitted a st).endAtRest a = (s.emitted a st).endMove a k n := by
    rw [State.endAtRest_of_intent (k := k) (by rw [ax_emitted]; exact if_pos stopping) (by rw [ax_emitted]; exact there), ax_emitted]
    rfl
  have moving (running : (s.ax a).mode.running = true) : (s.ax a).mode ≠ .stopping := by intro e; rw [e] at running; cases running
  have planned {k : Finding} {aux : Nat} (running : (s.ax a).mode.running = true)
      (finding : ((s.ax a).emit st).plannedFinding m = (k, aux)) :
      (s.emitted a st).endAtRest a = (s.emitted a st).endMove a k aux := by
    rw [State.endAtRest_of_running (m := m) (by rw [ax_emitted]; exact mode_emit (moving running))
      (by rw [ax_emitted]; exact current), ax_emitted, finding]
  have missed {v : Int} {p : ProfileNo} {w : MarkPart} (running : (s.ax a).mode.running = true)
      (task : m.task = .absolute v p (some w) ∨ m.task = .relative v p (some w))
      (window : (s.ax a).mark.window = .waiting ∨ (s.ax a).mark.window = .opened) :
      ((s.ax a).emit st).plannedFinding m = (.missed .planned, n) := by
    rw [plannedFinding_mark task, finding_of_not_found]
    · rfl
    · rw [Ne, found_emit (moving running)]
      rcases window with h | h <;> simp [h]
  have found {v : Int} {p : ProfileNo} {w : MarkPart}
      (task : m.task = .absolute v p (some w) ∨ m.task = .relative v p (some w)) :
      ((s.ax a).emit st).plannedFinding m = ((μ.finding n).1, (μ.finding n).2) := plannedFinding_mark task
  have seekfail {v : Int} {p : ProfileNo} {z : Bool} (running : (s.ax a).mode.running = true) (task : m.task = .seek v p z)
      (search : (s.ax a).mark.search = .armed) : ((s.ax a).emit st).plannedFinding m = (.seekfail, n) :=
    plannedFinding_of_armed task (by rw [(search_emit (moving running)).1]; exact search)
  have edge {v : Int} {p : ProfileNo} {z : Bool} (running : (s.ax a).mode.running = true) (task : m.task = .seek v p z)
      (search : (s.ax a).mark.search = .found) :
      ((s.ax a).emit st).plannedFinding m = (.done .edge, (s.ax a).mark.edgeSteps) := by
    rw [plannedFinding_of_found task (by rw [(search_emit (moving running)).1]; exact search), (search_emit (moving running)).2]
  refine ⟨fun clear => ⟨fun k cause stopping there path => ?_, fun running => ⟨fun v p task => ?_, fun v p w task =>
      ⟨fun window => ?_, fun window => ?_⟩, fun v p z task => ⟨fun search => ?_, fun search => ?_⟩⟩⟩,
    fun full => ⟨fun k stopping there => ?_, fun running => ⟨fun v p task => ?_, fun v p w task =>
      ⟨fun window => ?_, fun window => ?_⟩, fun v p z task => ⟨fun search => ?_, fun search => ?_⟩⟩⟩⟩
  · exact exec_stepPulse_stop owed current step last (intent stopping there) clear path
  · exact exec_stepPulse_goOn owed current step last (planned running (plannedFinding_plain task)) clear rfl
  · exact exec_stepPulse_stop owed current step last (planned running (missed running task window)) clear rfl
  · exact exec_stepPulse_goOn owed current step last (planned running (found task)) clear
      (path_finding_of_found ((found_emit (moving running)).2 window) n)
  · exact exec_stepPulse_stop owed current step last (planned running (seekfail running task search)) clear rfl
  · exact exec_stepPulse_goOn owed current step last (planned running (edge running task search)) clear rfl
  · exact exec_stepPulse_full current step last (intent stopping there) full
  · exact exec_stepPulse_full current step last (planned running (plannedFinding_plain task)) full
  · exact exec_stepPulse_full current step last (planned running (missed running task window)) full
  · exact exec_stepPulse_full current step last (planned running (found task)) full
  · exact exec_stepPulse_full current step last (planned running (seekfail running task search)) full
  · exact exec_stepPulse_full current step last (planned running (edge running task search)) full

end Sys2Proof.Machine
end


section
/-! SUPPORT. Proofs about a pulse that more steps follow: its counts, its outputs, the next step and the close of a window. -/

namespace Sys2Proof.Machine

variable {s : State} {a : Axis} {m : Move} {st : PendingStep}

/-- A change of one axis that keeps its offer, with nothing to grant before it. -/
theorem settle_setAx (nothing : s.NothingToGrant) {x : AxisState} (offer : x.offer = (s.ax a).offer) :
    (s.setAx a x).settle = s.setAx a x := settle_of_nothingToGrant (nothingToGrant_setAx nothing offer)

/-! ## What a pulse changes on its axis (R24, R92, R95, R97, R106, R110, R113) -/

theorem sign_eq (d : Dir) : d.sign = if d = .plus then 1 else -1 := by cases d <;> rfl

/-- STEP goes high; a high time still open has ended before, a DIR change due with it (log 14). -/
theorem pulse_drive_eq (d : DriveCheck) (readback : Bool) :
    d.pulse readback =
      let dir := if d.stepHigh = none then d.dir else d.dirDue.getD d.dir
      { d with
        stepHigh := some 0, stepPin := .high, dir := dir
        dirDue := if d.stepHigh = none then d.dirDue else none
        dirPin := if d.stepHigh = none then d.dirPin else d.dirDue.getD d.dirPin
        sample := if readback = true then some { elapsed := 0, dir := dir } else none } := by
  unfold DriveCheck.pulse
  cases high : d.stepHigh with
  | none => simp
  | some us => simp [endHigh_eq]

/-- The window closes at this pulse (R95). -/
abbrev AxisState.Closes (x : AxisState) (m : Move) : Prop :=
  x.mode ≠ .stopping ∧ x.mark.window = .opened ∧ m.task.mark?.any (fun w => x.ramp.stepsRun + 1 == w.start + w.length) = true

/-- The window opens at this pulse (R92). -/
abbrev AxisState.Opens (x : AxisState) (m : Move) : Prop :=
  x.mode ≠ .stopping ∧ x.mark.window = .waiting ∧ m.task.mark?.any (fun w => x.ramp.stepsRun + 1 == w.start) = true

theorem window_afterPulse (μ : MarkItems) (part : Option MarkPart) (n : Nat) :
    (μ.afterPulse part n).window =
      if μ.window = .opened ∧ part.any (fun w => n == w.start + w.length) = true then .closed
      else if μ.window = .waiting ∧ part.any (fun w => n == w.start) = true then .opened else μ.window := by
  cases part with
  | none => cases window : μ.window <;> simp [MarkItems.afterPulse, window]
  | some w => cases window : μ.window <;> simp [MarkItems.afterPulse, window]

theorem emit_mark_eq {x : AxisState} (current : x.current = some m) :
    (x.emit st).mark =
      { x.mark with
        widthCount := if x.mode ≠ .stopping ∧ x.mark.width = .counting then x.mark.widthCount + 1 else x.mark.widthCount
        window := if x.Closes m then .closed else if x.Opens m then .opened else x.mark.window } := by
  by_cases stopping : x.mode = .stopping
  · have emit : (x.emit st).mark = x.mark := if_pos stopping
    rw [emit]
    simp [AxisState.Closes, AxisState.Opens, stopping]
  · have window := window_afterPulse x.mark (m.task.mark?) (x.ramp.stepsRun + 1)
    rw [emit_mark stopping, current, Option.bind_some]
    simp only [AxisState.Closes, AxisState.Opens, ne_eq, stopping, not_false_eq_true, true_and, ← window]
    rfl

/-- A pulse, item by item. -/
theorem emit_eq {x : AxisState} (current : x.current = some m) :
    x.emit st =
      { x with
        mode := if x.mode = .stopping then .stopping else st.cls.mode
        position := x.position + (if x.ramp.dir = .plus then 1 else -1)
        ramp :=
          { x.ramp with
            k := st.cls.nextK x.ramp.k x.ramp.r, r := x.ramp.r - 1, stepsRun := x.ramp.stepsRun + 1, step := none, elapsed := 0 }
        mark :=
          { x.mark with
            widthCount := if x.mode ≠ .stopping ∧ x.mark.width = .counting then x.mark.widthCount + 1 else x.mark.widthCount
            window := if x.Closes m then .closed else if x.Opens m then .opened else x.mark.window }
        drive := x.drive.pulse x.config.readback } := by
  rw [← emit_mark_eq (st := st) current, ← sign_eq]
  rfl

/-! ## A pulse that more steps follow (R23, R95) -/

section More
variable (step : (s.ax a).ramp.step = some st) (more : 2 ≤ (s.ax a).ramp.r)
include step more

theorem pulse_of_more :
    s.pulse a =
      if ((s.ax a).emit st).mode ≠ .stopping ∧ ((s.ax a).emit st).mark.window = .closed then
        ((s.emitted a st).modAx a fun x => { x with mode := .stopping, intent := some (.missed .closed) }).replan a
          ((s.ax a).emit st).ramp.stoppingDistance
      else (s.emitted a st).replan a ((s.ax a).emit st).ramp.r := by
  have left : ¬((s.emitted a st).ax a).ramp.r = 0 := by
    rw [ax_emitted]
    show ¬(s.ax a).ramp.r - 1 = 0
    omega
  have pulse : s.pulse a =
      if ((s.emitted a st).ax a).ramp.r = 0 then (s.emitted a st).endAtRest a
      else if ((s.emitted a st).ax a).mode ≠ .stopping ∧ ((s.emitted a st).ax a).mark.window = .closed then
        ((s.emitted a st).modAx a fun x => { x with mode := .stopping, intent := some (.missed .closed) }).replan a
          ((s.emitted a st).ax a).ramp.stoppingDistance
      else (s.emitted a st).replan a ((s.emitted a st).ax a).ramp.r := by
    simp only [State.pulse, step]
    rfl
  rw [pulse, if_neg left, ax_emitted]

end More

theorem closed_emit_iff {x : AxisState} (current : x.current = some m)
    (moving : x.mode.running = true ∧ x.mark.window ≠ .closed ∨ x.mode = .stopping) :
    (x.emit st).mode ≠ .stopping ∧ (x.emit st).mark.window = .closed ↔ x.Closes m := by
  rcases moving with ⟨running, window⟩ | stopping
  · have not_stopping : x.mode ≠ .stopping := by intro e; rw [e] at running; cases running
    rw [emit_mark_eq current]
    simp only [mode_emit not_stopping, ne_eq, not_false_eq_true, true_and]
    by_cases closes : x.Closes m
    · rw [if_pos closes]
      exact iff_of_true rfl closes
    · rw [if_neg closes]
      simp only [closes, iff_false]
      split <;> simp [window]
  · have emit : (x.emit st).mode = .stopping := if_pos stopping
    simp [emit, AxisState.Closes, stopping]

/-- Settles O46: the three ways on from the pulse, by the close of the window and the ramp steps left. -/
theorem pulseCountsAndDecidesTheNextStep : Obligations.PulseCountsAndDecidesTheNextStep := by
  intro s a m st operating nothing current step more moving x p n k closes opens pulsed
  have next_k : st.cls.nextK x.ramp.k x.ramp.r = k := by
    show _ = match st.cls with | .accel => x.ramp.k + 1 | .cruise => x.ramp.k | .decel => x.ramp.r - 1
    cases st.cls <;> rfl
  have emit : x.emit st =
      { pulsed with
        mode := if x.mode = .stopping then .stopping else st.cls.mode
        ramp := { x.ramp with k := k, r := x.ramp.r - 1, stepsRun := n, step := none, elapsed := 0 } } := by
    rw [← next_k, emit_eq current, pulse_drive_eq]
  have stop_distance : (x.emit st).ramp.stoppingDistance = min (x.ramp.r - 1) k := congrArg (min (x.ramp.r - 1)) next_k
  have left_r : 0 < (x.emit st).ramp.r := by
    show 0 < (s.ax a).ramp.r - 1
    omega
  rw [exec_stepPulse operating step, pulse_of_more step more]
  refine ⟨fun stays => ?_, fun leaves left => ?_, fun leaves none quiet owed => ?_⟩
  · rw [if_neg (by rwa [closed_emit_iff current moving]), replan_of_pos _ _ left_r, State.modAx, ax_emitted, State.emitted,
      setAx_setAx, settle_setAx nothing (by rfl)]
    refine congrArg (fun y => Host.Outcome.next (s.setAx a y)) ?_
    rw [emit]
    rfl
  · have pos : 0 < (x.emit st).ramp.stoppingDistance := by
      rw [stop_distance]
      exact lt_min left_r left
    rw [if_pos ((closed_emit_iff current moving).2 leaves), replan_of_pos _ _ pos, modAx_modAx, State.modAx, ax_emitted, State.emitted,
      setAx_setAx, settle_setAx nothing (by rfl), stop_distance]
    refine congrArg (fun y => Host.Outcome.next (s.setAx a y)) ?_
    rw [emit]
    rfl
  · have zero : (x.emit st).ramp.stoppingDistance = 0 := by rw [stop_distance, none, Nat.min_zero]
    have stops : ((s.emitted a st).modAx a fun x => { x with mode := .stopping, intent := some (.missed .closed) }) =
        s.setAx a { x.emit st with mode := .stopping, intent := some (.missed .closed) } := by
      rw [State.modAx, ax_emitted, State.emitted, setAx_setAx]
    rw [if_pos ((closed_emit_iff current moving).2 leaves), stops, zero, replan_zero, State.modAx, ax_setAx_self, setAx_setAx,
      State.endAtRest_of_intent (k := .missed .closed) (by rw [ax_setAx_self]) (by rw [ax_setAx_self]), ax_setAx_self,
      State.settle_setAx_endMove_stop quiet (by exact current) (by exact State.offer_of_quiet quiet a) (by exact owed) _ _ rfl, emit]
    refine congrArg _ (State.endedStop_congr s a m _ _ ?_ _)
    rw [none]
    rfl

end Sys2Proof.Machine
end


section
/-! SUPPORT. Proofs about pin changes: the counts they begin and discard, and the acceptances that come before them. -/

namespace Sys2Proof.Machine

variable {s : State} {a : Axis} {level : Level}

/-! ## A pin change as the filter sees it (R88, R114, R137) -/

theorem setPin_eq (f : FilteredInput) (level : Level) :
    f.setPin level =
      if level = f.pin then f
      else if level = f.qualified then { f with pin := level, count := none } else { f with pin := level, count := some 0 } := by
  unfold FilteredInput.setPin
  split
  · rfl
  · split <;> rfl

theorem not_leaves {f : FilteredInput} {time : Nat} (h : ¬(level ≠ f.pin ∧ ∃ us, f.count = some us ∧ time ≤ us)) :
    f.leaves level time = false := by
  rwa [← Bool.not_eq_true, leaves_iff]

theorem counting_of_leaves {f : FilteredInput} {time : Nat} (h : level ≠ f.pin ∧ ∃ us, f.count = some us ∧ time ≤ us) :
    f.counting f.pin = true := by
  obtain ⟨-, us, count, -⟩ := h
  simp [FilteredInput.counting, count]

/-! ## SENS -/

/-- The SENS pin moves once any level it leaves has been accepted, and with a filter time of 0 the new level is accepted at once. -/
def State.moveSens (s : State) (a : Axis) (level : Level) : State :=
  let t := s.modAx a fun x => { x with sens := x.sens.setPin level }
  if (t.ax a).sens.count.isSome ∧ (t.ax a).config.filter = 0 then t.takeSens a else t

theorem sensPin_of_leaves (h : level ≠ (s.ax a).sens.pin ∧ ∃ us, (s.ax a).sens.count = some us ∧ (s.ax a).config.filter ≤ us) :
    s.sensPin a level = (s.takeSens a).moveSens a level := by
  have leaves := (leaves_iff (s.ax a).sens level (s.ax a).config.filter).2 h
  rw [State.sensPin, if_neg h.1]
  simp only [leaves]
  rfl

theorem sensPin_of_stays (differs : level ≠ (s.ax a).sens.pin)
    (h : ¬(level ≠ (s.ax a).sens.pin ∧ ∃ us, (s.ax a).sens.count = some us ∧ (s.ax a).config.filter ≤ us)) :
    s.sensPin a level = s.moveSens a level := by
  rw [State.sensPin, if_neg differs]
  simp only [not_leaves h]
  rfl

/-- With no count in progress a pin change leaves nothing to accept, and the pin's own level is no change. -/
theorem sensPin_of_no_count (h : (s.ax a).sens.count = none) : s.sensPin a level = s.moveSens a level := by
  by_cases same : level = (s.ax a).sens.pin
  · have keeps : (s.modAx a fun x => { x with sens := x.sens.setPin level }) = s := by
      rw [State.modAx, setPin_eq, if_pos same]
      exact setAx_ax s a
    rw [State.sensPin, if_pos same, State.moveSens, keeps, h]
    rfl
  · exact sensPin_of_stays same (by simp [h])

theorem exec_sensPinChange (operating : s.inReset = false) : exec (.sensPinChange a level) s = .next (s.sensPin a level) :=
  congrArg _ (if_neg (by simp [operating]))

/-- The acceptance of a count in progress, as the edge it is. -/
theorem exec_edge (operating : s.inReset = false) (counting : (s.ax a).sens.counting (s.ax a).sens.pin = true) :
    exec (if (s.ax a).sens.pin = (s.ax a).config.activeLevel then .leadingEdge a else .trailingEdge a) s = .next (s.takeSens a) := by
  split
  · next active => exact congrArg _ ((operating_of_not_inReset s _ operating).trans (if_pos (active ▸ counting)))
  · next inactive =>
    have level : (s.ax a).sens.pin = otherLevel (s.ax a).config.activeLevel := by
      revert inactive
      cases (s.ax a).sens.pin <;> cases (s.ax a).config.activeLevel <;> simp [otherLevel]
    exact congrArg _ ((operating_of_not_inReset s _ operating).trans (if_pos (level ▸ counting)))

/-- The part with the SENS level of an axis accepted, before its edge acts. -/
def State.qualified (s : State) (a : Axis) : State := s.setAx a { s.ax a with sens := (s.ax a).sens.accept }

theorem takeSens_eq (s : State) (a : Axis) :
    s.takeSens a =
      (if (s.ax a).sens.pin = (s.ax a).config.activeLevel then (s.qualified a).leadingEdge a
       else (s.qualified a).trailingEdge a).settle := by
  have self : (s.qualified a).ax a = { s.ax a with sens := (s.ax a).sens.accept } := ax_setAx_self s a _
  have accept : s.acceptSens a =
      if ((s.qualified a).ax a).sens.qualified = ((s.qualified a).ax a).config.activeLevel then (s.qualified a).leadingEdge a
      else (s.qualified a).trailingEdge a := rfl
  rw [State.takeSens, accept, self]
  rfl

/-- The edge at an acceptance leaves no count in progress, whatever it sets off. -/
theorem count_takeSens (s : State) (a : Axis) : ((s.takeSens a).ax a).sens.count = none := by
  have settles : (s.qualified a).SettlesSens a (s.takeSens a) := by
    rw [takeSens_eq]
    refine .trans ?_ (.of_setup (.settle _) a)
    split
    · exact .leadingEdge _ a
    · exact .of_setup (.trailingEdge _ a) a
  rcases settles.self with same | settled
  · rw [same, State.qualified, ax_setAx_self]
    rfl
  · exact settled.count

/-- An edge that finds its axis not running changes the qualified level alone (R89). -/
theorem takeSens_of_not_running (nothing : s.NothingToGrant) (still : (s.ax a).mode.running = false) :
    s.takeSens a = s.qualified a := by
  have mode : ((s.qualified a).ax a).mode.running = false := by
    rw [State.qualified, ax_setAx_self]
    exact still
  have leading : (s.qualified a).leadingEdge a = s.qualified a := if_neg (by simp [mode])
  have trailing : (s.qualified a).trailingEdge a = s.qualified a := if_neg (by simp [mode])
  rw [takeSens_eq, leading, trailing, ite_self]
  exact settle_setAx nothing rfl

/-! ## /FLT and /STOP -/

theorem exec_fltPinChange (operating : s.inReset = false) : exec (.fltPinChange a level) s = .next (s.fltPin a level) :=
  congrArg _ (if_neg (by simp [operating]))

theorem fltPin_of_stays (h : (s.ax a).drive.flt.leaves level Config.lineFilter = false) :
    s.fltPin a level = s.modAx a fun x => { x with drive := { x.drive with flt := x.drive.flt.setPin level } } := by
  simp only [State.fltPin, h]
  rfl

theorem fltPin_of_leaves (h : (s.ax a).drive.flt.leaves level Config.lineFilter = true) :
    s.fltPin a level = (s.takeFlt a).fltPin a level := by
  have settled : ((s.takeFlt a).ax a).drive.flt.leaves level Config.lineFilter = false := by
    rw [State.flt_takeFlt, if_pos rfl, accept_leaves]
  rw [fltPin_of_stays settled]
  simp only [State.fltPin, h]
  rfl

theorem exec_fltEdge (operating : s.inReset = false) (counting : (s.ax a).drive.flt.counting (s.ax a).drive.flt.pin = true) :
    exec (if (s.ax a).drive.flt.pin = .low then .fltAssertion a else .fltDeassertion a) s = .next (s.takeFlt a) := by
  cases pin : (s.ax a).drive.flt.pin with
  | low => exact congrArg _ ((operating_of_not_inReset s _ operating).trans (if_pos (pin ▸ counting)))
  | high => exact congrArg _ ((operating_of_not_inReset s _ operating).trans (if_pos (pin ▸ counting)))

theorem exec_stopPinChange (operating : s.inReset = false) : exec (.stopPinChange level) s = .next (s.stopPin level) :=
  congrArg _ (if_neg (by simp [operating]))

theorem stopPin_of_stays (h : s.stop.leaves level Config.lineFilter = false) :
    s.stopPin level = { s with stop := s.stop.setPin level } := by
  simp only [State.stopPin, h]
  rfl

theorem stopPin_of_leaves (h : s.stop.leaves level Config.lineFilter = true) : s.stopPin level = s.takeStop.stopPin level := by
  have settled : s.takeStop.stop.leaves level Config.lineFilter = false := by
    rw [(State.inputs_takeStop s).1, accept_leaves]
  rw [stopPin_of_stays settled]
  simp only [State.stopPin, h]
  rfl

theorem exec_stopEdge (operating : s.inReset = false) (counting : s.stop.counting s.stop.pin = true) :
    exec (if s.stop.pin = .low then .stopAssertion else .stopDeassertion) s = .next s.takeStop := by
  cases pin : s.stop.pin with
  | low => exact congrArg _ ((operating_of_not_inReset s _ operating).trans (if_pos (pin ▸ counting)))
  | high => exact congrArg _ ((operating_of_not_inReset s _ operating).trans (if_pos (pin ▸ counting)))

/-- Settles O54, input by input. -/
theorem pinChangesStartAndDiscardCounts : Obligations.PinChangesStartAndDiscardCounts := by
  intro s a level operating x after whole
  rw [exec_sensPinChange operating, exec_fltPinChange operating, exec_stopPinChange operating]
  let counted : State := s.setAx a { x with sens := { x.sens with pin := level, count := some 0 } }
  have self : counted.ax a = { x with sens := { x.sens with pin := level, count := some 0 } } := ax_setAx_self s a _
  have accepts (filter : x.config.filter = 0) (count : x.sens.count = none) (moves : level ≠ x.sens.pin)
      (unlike : level ≠ x.sens.qualified) : s.sensPin a level = counted.takeSens a := by
    have moved : (s.modAx a fun x => { x with sens := x.sens.setPin level }) = counted := by
      rw [State.modAx, setPin_eq, if_neg moves, if_neg unlike]
    rw [sensPin_of_no_count count, State.moveSens, moved]
    exact if_pos (by rw [self]; exact ⟨rfl, filter⟩)
  refine ⟨fun filter stays => ?_, fun left => ?_, fun same => ?_, fun filter count moves unlike => ⟨fun still nothing => ?_, ?_⟩,
    fun stays => ?_, fun left => ?_, fun stays => ?_, fun left => ?_⟩
  · by_cases same : level = x.sens.pin
    · refine congrArg _ ((if_pos same).trans ?_)
      simp only [after, if_pos same]
      exact (setAx_ax s a).symm
    · rw [sensPin_of_stays same stays, State.moveSens, State.modAx, setPin_eq]
      refine congrArg _ (if_neg ?_)
      rw [ax_setAx_self]
      exact fun h => filter h.2
  · refine ⟨s.takeSens a, exec_edge operating (counting_of_leaves left), ?_⟩
    beta_reduce
    rw [exec_sensPinChange ((State.SettlesSens.takeSens s a).reset.trans operating), sensPin_of_leaves left,
      sensPin_of_no_count (count_takeSens s a)]
  · exact congrArg _ (if_pos same)
  · rw [accepts filter count moves unlike, takeSens_of_not_running (s := counted) (nothingToGrant_setAx nothing rfl)
      (by rw [self]; exact still), State.qualified, self, setAx_setAx]
    rfl
  · intro counted'
    have edge := exec_edge (s := counted) (a := a) operating (by rw [self]; simp [FilteredInput.counting])
    rw [self] at edge
    rw [accepts filter count moves unlike]
    exact edge.symm
  · rw [fltPin_of_stays (not_leaves stays), State.modAx, setPin_eq]
  · refine ⟨s.takeFlt a, exec_fltEdge operating (counting_of_leaves left), ?_⟩
    beta_reduce
    rw [exec_fltPinChange ((State.inputs_takeFlt s a).1.trans operating), fltPin_of_leaves ((leaves_iff _ _ _).2 left)]
  · rw [stopPin_of_stays (not_leaves stays), setPin_eq]
  · refine ⟨s.takeStop, exec_stopEdge operating (counting_of_leaves left), ?_⟩
    beta_reduce
    rw [exec_stopPinChange ((State.inputs_takeStop s).2.1.trans operating), stopPin_of_leaves ((leaves_iff _ _ _).2 left)]

end Sys2Proof.Machine
end


section
/-! SUPPORT. Proofs about leading edges: the edge of a seek, the mark in an open window and its re-plan. -/

namespace Sys2Proof.Machine

variable {s : State} {a : Axis} {m : Move}

/-! ## Re-plans that end a running move (R44) -/

namespace State

theorem settle_replanNow_zero_goOn {x : AxisState} {k : Finding} {aux : Nat} (quiet : s.Quiet) (current : x.current = some m)
    (running : x.mode.running = true) (offer : x.offer = none) (owed : x.owed = none)
    (finding : ({ x with ramp := { x.ramp with r := 0, step := none } } : AxisState).plannedFinding m = (k, aux)) (path : k.path = .cont) :
    ((s.setAx a x).replanNow a 0).settle =
      (s.setAx a { x with ramp := { x.ramp with r := 0, step := none } }).endedGoOn a m k aux := by
  have self : (s.setAx a x).ax a = x := ax_setAx_self s a x
  have rest : (s.setAx a x).atRest a = s.setAx a { x with ramp := { x.ramp with r := 0, step := none } } := by
    rw [atRest, self, setAx_setAx]
  have not_stopping : x.mode ≠ .stopping := by intro e; rw [e] at running; cases running
  rw [replanNow_zero (m := m) (k := k) (aux := aux) (by rw [self]; exact current), rest,
    settle_setAx_endMove_goOn quiet (by exact current) (by exact offer) (by exact owed) _ _ path]
  rw [rest, endAtRest_of_running (m := m) (by rw [ax_setAx_self]; exact not_stopping) (by rw [ax_setAx_self]; exact current),
    ax_setAx_self, finding]

theorem planned_setAx (x : AxisState) (r : Nat) :
    (s.setAx a x).planned a r =
      s.setAx a { x with ramp := { x.ramp with r := r, step := some ((s.prof x.ramp.profile).decide x.ramp.k r) } } := by
  simp only [planned, decided, ax_setAx_self, setAx_setAx, prof_setAx]

end State

theorem exec_leadingEdge (operating : s.inReset = false) (counting : (s.ax a).sens.counting (s.ax a).config.activeLevel = true) :
    exec (.leadingEdge a) s = .next
      ((s.setAx a { s.ax a with sens := { (s.ax a).sens with qualified := (s.ax a).config.activeLevel, count := none } }).leadingEdge
        a).settle := by
  have pin := State.pin_of_counting counting
  refine congrArg _ ((operating_of_not_inReset s _ operating).trans ((if_pos counting).trans ?_))
  have accept : (s.ax a).sens.accept = { (s.ax a).sens with qualified := (s.ax a).config.activeLevel, count := none } :=
    congrArg (fun level => { (s.ax a).sens with qualified := level, count := none }) pin
  rw [takeSens_eq, if_pos pin, State.qualified, accept]

/-! ## The edge of a seek (R103) -/

section Seek
variable {v : Int} {p : ProfileNo} {z : Bool} (current : (s.ax a).current = some m) (task : m.task = .seek v p z)
include current task

theorem leadingEdge_of_no_search (search : (s.ax a).mark.search ≠ .armed) : s.leadingEdge a = s := by
  simp only [State.leadingEdge, current, Option.map_some, task, if_neg search, ite_self]

theorem leadingEdge_of_search (running : (s.ax a).mode.running = true) (search : (s.ax a).mark.search = .armed) :
    s.leadingEdge a =
      (s.setAx a
        { s.ax a with
          position := if z then 0 else (s.ax a).position
          mark := { (s.ax a).mark with search := .found, edgeSteps := (s.ax a).ramp.stepsRun } }).replanNow a
        (s.ax a).ramp.stoppingDistance := by
  have edge : s.leadingEdge a =
      (s.modAx a fun x =>
        { x with
          position := if z then 0 else x.position
          mark := { x.mark with search := .found, edgeSteps := x.ramp.stepsRun } }).controlledStop a none := by
    simp only [State.leadingEdge, current, Option.map_some, task, if_pos search, if_pos running]
  rw [edge]
  show (State.modAx s a _).replanNow a ((State.modAx s a _).ax a).ramp.stoppingDistance = _
  rw [ax_modAx_self]
  rfl

end Seek

/-- Settles O56: the re-plan of the seek's edge, by the stopping distance and the step's new interval. -/
theorem leadingEdgeOfASeekStopsIt : Obligations.LeadingEdgeOfASeekStopsIt := by
  intro s a m v p z operating counting current task running x sens n step found
  let qualified : State := s.setAx a { x with sens := sens }
  have self : qualified.ax a = { x with sens := sens } := ax_setAx_self s a _
  have there : (qualified.ax a).current = some m := by rw [self]; exact current
  have edge : exec (.leadingEdge a) s = .next (qualified.leadingEdge a).settle := exec_leadingEdge operating counting
  have seek (search : x.mark.search = .armed) : qualified.leadingEdge a = (s.setAx a found).replanNow a n := by
    rw [leadingEdge_of_search there task (by rw [self]; exact running) (by rw [self]; exact search), self, setAx_setAx]
    rfl
  have decided : (s.setAx a found).decided a n = step := by
    rw [State.decided, ax_setAx_self]
    rfl
  have elapsed : ((s.setAx a found).ax a).ramp.elapsed = x.ramp.elapsed := by rw [ax_setAx_self]
  have planned : (s.setAx a found).planned a n = s.setAx a { found with ramp := { x.ramp with r := n, step := some step } } :=
    State.planned_setAx found n
  rw [edge]
  refine ⟨fun other nothing => ?_, fun search pos nothing early => ?_, fun search pos late => ?_, fun search zero quiet owed => ?_⟩
  · rw [leadingEdge_of_no_search there task (by rw [self]; exact other)]
    exact congrArg _ (settle_setAx nothing rfl)
  · rw [seek search, State.replanNow_of_early pos (by rw [decided, elapsed]; exact early), planned]
    exact congrArg _ (settle_setAx nothing rfl)
  · rw [seek search, State.replanNow_of_late pos (by rw [decided, elapsed]; exact late), planned]
  · rw [seek search, zero]
    exact congrArg _ (State.settle_replanNow_zero_goOn quiet current running (State.offer_of_quiet quiet a) owed
      (plannedFinding_of_found task rfl) rfl)

end Sys2Proof.Machine
end


section
/-! SUPPORT. Proofs about the mark: the leading edge in an open window, its re-plan, and the sensor that leaves at the same instant. -/

namespace Sys2Proof.Machine

variable {s : State} {a : Axis} {m : Move} {w : MarkPart}

/-- The axis with a mark just found, the sensor and the width as they stand. -/
def AxisState.foundMark (x : AxisState) (sens : FilteredInput) (width : Width) : AxisState :=
  { x with
    sens := sens
    mark := { x.mark with window := .found, position := some x.position, width := width, widthCount := 0 } }

/-! ## Which edges act (R89, R93, R103) -/

theorem leadingEdge_of_still (still : (s.ax a).mode.running = false) : s.leadingEdge a = s := if_neg (by simp [still])

theorem leadingEdge_of_no_move (current : (s.ax a).current = none) : s.leadingEdge a = s := by
  simp only [State.leadingEdge, current, Option.map_none, ite_self]

theorem leadingEdge_unwatched (current : (s.ax a).current = some m)
    (window : m.task.mark? ≠ none → (s.ax a).mark.window ≠ .opened)
    (search : ∀ v p z, m.task = .seek v p z → (s.ax a).mark.search ≠ .armed) : s.leadingEdge a = s := by
  cases task : m.task with
  | seek v p z => exact leadingEdge_of_no_search current task (search v p z task)
  | dwell ms => simp only [State.leadingEdge, current, Option.map_some, task, ite_self]
  | absolute v p mark | relative v p mark =>
    rw [task] at window
    cases mark with
    | none => simp only [State.leadingEdge, current, Option.map_some, task, ite_self]
    | some w =>
      have closed := window (by simp [Task.mark?])
      simp only [State.leadingEdge, current, Option.map_some, task, if_neg closed, ite_self]

theorem trailingEdge_of_counting (running : (s.ax a).mode.running = true) (counting : (s.ax a).mark.width = .counting)
    (part : ((s.ax a).current.bind (·.task.mark?)).isSome = true) :
    s.trailingEdge a = s.setAx a { s.ax a with mark := { (s.ax a).mark with width := .ended } } := by
  rw [trailingEdge_eq, if_pos ⟨running, counting, part⟩]

section Mark
variable (current : (s.ax a).current = some m) (mark : m.task.mark? = some w) (running : (s.ax a).mode.running = true)
  (opened : (s.ax a).mark.window = .opened)
include current mark running opened

theorem leadingEdge_of_mark (plain : w.stopDistance = none) :
    s.leadingEdge a = s.setAx a ((s.ax a).foundMark (s.ax a).sens .counting) := by
  cases task : m.task with
  | seek v p z => rw [task] at mark; cases mark
  | dwell ms => rw [task] at mark; cases mark
  | absolute v p part | relative v p part =>
    rw [task] at mark
    obtain rfl : part = some w := mark
    simp only [State.leadingEdge, current, Option.map_some, task, if_pos running, if_pos opened, plain]
    rfl

theorem leadingEdge_of_registration {d : Nat} (registers : w.stopDistance = some d) :
    s.leadingEdge a =
      (if (s.setAx a ((s.ax a).foundMark (s.ax a).sens .counting)).replansAtOnce a d then
        (s.setAx a ((s.ax a).foundMark (s.ax a).sens .counting)).passMark a
       else s.setAx a ((s.ax a).foundMark (s.ax a).sens .counting)).register a d := by
  cases task : m.task with
  | seek v p z => rw [task] at mark; cases mark
  | dwell ms => rw [task] at mark; cases mark
  | absolute v p part | relative v p part =>
    rw [task] at mark
    obtain rfl : part = some w := mark
    simp only [State.leadingEdge, current, Option.map_some, task, if_pos running, if_pos opened, registers]
    rfl

end Mark

/-- The sensor stays on the mark or leaves it at the mark's instant (log 25). -/
theorem passMark_foundMark {x : AxisState} (current : x.current = some m) (mark : m.task.mark? = some w)
    (running : x.mode.running = true) (filter : x.config.filter = 0) (sens : FilteredInput) :
    (s.setAx a (x.foundMark sens .counting)).passMark a =
      { s with choices := s.choices + 1 }.setAx a (x.foundMark sens .counting) ∨
    (s.setAx a (x.foundMark sens .counting)).passMark a =
      { s with choices := s.choices + 1 }.setAx a
        (x.foundMark { pin := otherLevel x.config.activeLevel, qualified := otherLevel x.config.activeLevel, count := none } .ended) := by
  have self := ax_setAx_self s a (x.foundMark sens .counting)
  refine (passMark_cases _ a (by rw [self]; exact filter)).imp id fun leaves => leaves.trans ?_
  show (((State.setAx { s with choices := s.choices + 1 } a _).modAx a _).trailingEdge a) = _
  rw [State.modAx, ax_setAx_self, setAx_setAx,
    trailingEdge_of_counting (by rw [ax_setAx_self]; exact running) (by rw [ax_setAx_self]; rfl)
      (by rw [ax_setAx_self]; show (x.current.bind _).isSome = true; rw [current]; simp [mark]),
    ax_setAx_self, setAx_setAx]
  rfl

/-! ## The re-plan (R99, R100) -/

theorem register_setAx (x : AxisState) (d : Nat) :
    (s.setAx a x).register a d =
      (s.setAx a { x with mark := { x.mark with registration := (x.registration d).1 } }).replanNow a (x.registration d).2 := by
  rw [State.register, ax_setAx_self, State.modAx, ax_setAx_self, setAx_setAx]

theorem registration_clamped (x : AxisState) (d : Nat) (order : x.limitMin ≤ x.limitMax) :
    let target := if x.ramp.dir = .plus then x.position + d else x.position - d
    let goal := max x.limitMin (min x.limitMax target)
    let count := (goal - x.position).natAbs
    let stop := min x.ramp.r x.ramp.k
    x.registration d =
      (if count < stop then .short (stop - count) else if goal = target then .exact else .clamped, max stop count) := by
  intro target goal count stop
  have same_target : x.position + x.ramp.dir.sign * d = target := by
    simp only [target]
    cases x.ramp.dir with
    | plus => simp [Dir.sign]
    | minus => simp [Dir.sign]; omega
  have same_goal : x.goal d = goal := by
    simp only [AxisState.goal, same_target, goal]
    omega
  have eq := registration_eq x d
  rw [same_target, same_goal] at eq
  rw [eq]
  show (if stop ≤ count then (if goal = target then Registration.exact else .clamped, count)
    else (.short (stop - count), stop)) = _
  by_cases short : count < stop
  · rw [if_neg short.not_ge, if_pos short, max_eq_left short.le]
  · rw [if_pos (not_lt.1 short), if_neg short, max_eq_right (not_lt.1 short)]

/-- The axis with a mark just found and its move re-planned to a count above 0. -/
def AxisState.replannedMark (x : AxisState) (sens : FilteredInput) (width : Width) (o : Registration) (r : Nat) (st : PendingStep) :
    AxisState :=
  { x.foundMark sens width with
    ramp := { x.ramp with r := r, step := some st }
    mark := { (x.foundMark sens width).mark with registration := o } }

section Replan
variable {x : AxisState} {d r : Nat} {o : Registration} (plan : x.registration d = (o, r)) (sens : FilteredInput) (width : Width)
include plan

theorem register_foundMark :
    (s.setAx a (x.foundMark sens width)).register a d =
      (s.setAx a { x.foundMark sens width with mark := { (x.foundMark sens width).mark with registration := o } }).replanNow a r := by
  have same : (x.foundMark sens width).registration d = (o, r) := plan
  rw [register_setAx, same]

variable (pos : 0 < r)
include pos

theorem register_of_early (early : x.ramp.elapsed < ((s.prof x.ramp.profile).decide x.ramp.k r).interval) :
    (s.setAx a (x.foundMark sens width)).register a d =
      s.setAx a (x.replannedMark sens width o r ((s.prof x.ramp.profile).decide x.ramp.k r)) := by
  rw [register_foundMark plan, State.replanNow_of_early pos, State.planned_setAx]
  · rfl
  · rw [State.decided, ax_setAx_self]
    exact early

theorem register_of_late (late : ((s.prof x.ramp.profile).decide x.ramp.k r).interval ≤ x.ramp.elapsed) :
    (s.setAx a (x.foundMark sens width)).register a d =
      (s.setAx a (x.replannedMark sens width o r ((s.prof x.ramp.profile).decide x.ramp.k r))).pulse a := by
  rw [register_foundMark plan, State.replanNow_of_late pos, State.planned_setAx]
  · rfl
  · rw [State.decided, ax_setAx_self]
    exact late

theorem replansAtOnce_foundMark :
    (s.setAx a (x.foundMark sens width)).replansAtOnce a d = true ↔
      ((s.prof x.ramp.profile).decide x.ramp.k r).interval ≤ x.ramp.elapsed := by
  have same : (x.foundMark sens width).registration d = (o, r) := plan
  rw [replansAtOnce_of_pos _ _ (by rw [ax_setAx_self, same]; exact pos), ax_setAx_self, same]
  rfl

end Replan

section AtRest
variable {x : AxisState} {d : Nat} {o : Registration} (plan : x.registration d = (o, 0)) (sens : FilteredInput) {width : Width}
include plan

/-- A mark whose re-plan leaves nothing to run ends its move (R101). -/
theorem settle_register_zero {k : DoneDetail} (quiet : s.Quiet) (current : x.current = some m) (mark : m.task.mark? = some w)
    (running : x.mode.running = true) (offer : x.offer = none) (owed : x.owed = none)
    (finding : ({ (x.foundMark sens width).mark with registration := o } : MarkItems).finding x.ramp.stepsRun = (.done k, 0)) :
    ((s.setAx a (x.foundMark sens width)).register a d).settle =
      (s.setAx a { x with sens := sens, ramp := { x.ramp with r := 0, step := none } }).endedGoOn a m (.done k) 0 := by
  rw [register_foundMark plan, State.settle_replanNow_zero_goOn (m := m) (k := .done k) (aux := 0) quiet (by exact current)
    (by exact running) (by exact offer) (by exact owed) _ rfl]
  · exact State.endedGoOn_congr s a m _ _ (by rfl)
  · cases task : m.task with
    | seek v p z => rw [task] at mark; cases mark
    | dwell ms => rw [task] at mark; cases mark
    | absolute v p part => 
      rw [task] at mark
      exact (plannedFinding_mark (w := w) (.inl (task.trans (by rw [show part = some w from mark])))).trans finding
    | relative v p part =>
      rw [task] at mark
      exact (plannedFinding_mark (w := w) (.inr (task.trans (by rw [show part = some w from mark])))).trans finding

end AtRest

/-- Settles O55: the edges that nothing watches, the mark alone, the re-plan with steps left, and the end at the mark. -/
theorem leadingEdgeInAnOpenWindowIsTheMark : Obligations.LeadingEdgeInAnOpenWindowIsTheMark := by
  intro s a operating nothing counting x sens marked
  let qualified : State := s.setAx a { x with sens := sens }
  have self : qualified.ax a = { x with sens := sens } := ax_setAx_self s a _
  have edge : exec (.leadingEdge a) s = .next (qualified.leadingEdge a).settle := exec_leadingEdge operating counting
  rw [edge]
  refine ⟨fun unwatched => ?_, fun m current w mark running opened => ?_⟩
  · have stays : qualified.leadingEdge a = qualified := by
      rcases unwatched with still | unwatched
      · exact leadingEdge_of_still (by rw [self]; exact still)
      · cases current : x.current with
        | none => exact leadingEdge_of_no_move (by rw [self]; exact current)
        | some m =>
          obtain ⟨window, search⟩ := unwatched m current
          exact leadingEdge_unwatched (m := m) (by rw [self]; exact current) (by rw [self]; exact window) (by rw [self]; exact search)
    rw [stays]
    exact congrArg _ (settle_setAx nothing rfl)
  have there : (qualified.ax a).current = some m := by rw [self]; exact current
  have run : (qualified.ax a).mode.running = true := by rw [self]; exact running
  have window : (qualified.ax a).mark.window = .opened := by rw [self]; exact opened
  have found : qualified.setAx a ((qualified.ax a).foundMark (qualified.ax a).sens .counting) = s.setAx a (x.foundMark sens .counting) := by
    rw [self, setAx_setAx]
    rfl
  have registers {d : Nat} (stop_distance : w.stopDistance = some d) :
      qualified.leadingEdge a =
        (if (s.setAx a (x.foundMark sens .counting)).replansAtOnce a d then (s.setAx a (x.foundMark sens .counting)).passMark a
         else s.setAx a (x.foundMark sens .counting)).register a d := by
    rw [leadingEdge_of_registration there mark run window stop_distance, found]
  refine ⟨fun plain => ?_, fun d stop_distance order => ?_, fun d stop_distance order => ?_⟩
  · rw [leadingEdge_of_mark there mark run window plain, found]
    exact congrArg _ (settle_setAx nothing rfl)
  · intro target goal count stop r step inactive planned pos
    have plan := registration_clamped x d order
    have at_once := replansAtOnce_foundMark (s := s) (a := a) plan sens .counting pos
    rw [registers stop_distance]
    refine ⟨fun early => ?_, fun late => ⟨fun filter => ?_, fun filter => ?_⟩⟩
    · rw [if_neg (by rw [at_once]; exact early.not_ge), register_of_early plan sens .counting pos early]
      exact congrArg _ (settle_setAx nothing rfl)
    · rw [if_pos (at_once.2 late), passMark_of_filtered _ a (by rw [ax_setAx_self]; exact filter),
        register_of_late plan sens .counting pos late]
      rfl
    · rw [if_pos (at_once.2 late)]
      refine (passMark_foundMark (s := s) (a := a) current mark running filter sens).imp (fun pass => ?_) fun pass => ?_
      · rw [pass, register_of_late (s := { s with choices := s.choices + 1 }) plan sens .counting pos late]
        rfl
      · rw [pass, register_of_late (s := { s with choices := s.choices + 1 }) plan _ .ended pos late]
        rfl
  · intro target goal inactive ended at_goal still quiet owed
    have plan : x.registration d = (if goal = target then .exact else .clamped, 0) := by
      have count : (goal - x.position).natAbs = 0 := by omega
      have plan := registration_clamped x d order
      simp only at plan
      rw [plan]
      show (if (goal - x.position).natAbs < min x.ramp.r x.ramp.k then Registration.short _ else if goal = target then .exact else .clamped,
        max (min x.ramp.r x.ramp.k) (goal - x.position).natAbs) = _
      rw [still, count, if_neg (Nat.lt_irrefl 0), Nat.max_self]
    have offer := State.offer_of_quiet quiet a
    have open_ : ({ (x.foundMark sens .counting).mark with registration := if goal = target then .exact else .clamped } : MarkItems).finding
        x.ramp.stepsRun = (.done .markOpen, 0) := by
      split <;> rfl
    have passed (sens' : FilteredInput) :
        ({ (x.foundMark sens' .ended).mark with registration := if goal = target then .exact else .clamped } : MarkItems).finding
          x.ramp.stepsRun = (.done (if goal = target then .mark else .regClamped), 0) := by
      split <;> rfl
    have at_once : (s.setAx a (x.foundMark sens .counting)).replansAtOnce a d = true := replansAtOnce_of_zero _ _ (by
      rw [ax_setAx_self]
      exact congrArg Prod.snd plan)
    rw [registers stop_distance, if_pos at_once]
    refine ⟨fun filter => ?_, fun filter => ?_⟩
    · rw [passMark_of_filtered _ a (by rw [ax_setAx_self]; exact filter)]
      exact congrArg _ (settle_register_zero plan sens quiet current mark running offer owed open_)
    · refine (passMark_foundMark (s := s) (a := a) current mark running filter sens).imp (fun pass => ?_) fun pass => ?_
      · rw [pass]
        exact congrArg _ (settle_register_zero (s := { s with choices := s.choices + 1 }) plan sens quiet current mark running offer owed open_)
      · rw [pass]
        exact congrArg _ (settle_register_zero (s := { s with choices := s.choices + 1 }) plan _ quiet current mark running offer owed (passed _))

end Sys2Proof.Machine
end


section
/-! SUPPORT. Proofs about time: which events are due, what 1 µs moves, and events that have nothing to act on. -/

namespace Sys2Proof.Machine

variable {s : State} {a b : Axis}

/-! ## The due events of an axis (R24, R31, R88, R110, R113, R114) -/

theorem due_iff (f : FilteredInput) (time : Nat) : f.due time = true ↔ ∃ us, f.count = some us ∧ time ≤ us := by
  simp [FilteredInput.due, Option.any_eq_true]

theorem overdue_iff (ρ : Ramp) : ρ.overdue = true ↔ ∃ st, ρ.step = some st ∧ st.interval ≤ ρ.elapsed := by
  simp [Ramp.overdue, Option.any_eq_true]

/-- The event at the end of a filter time is the one of the level that the pin shows. -/
theorem mem_filterEvent {f : FilteredInput} {time : Nat} {level : Level} {there other c : Instr} :
    c ∈ filterEvent f time level there other ↔
      f.due time = true ∧ (f.pin = level ∧ c = there ∨ f.pin ≠ level ∧ c = other) := by
  unfold filterEvent
  by_cases due : f.due time = true <;> by_cases pin : f.pin = level <;> simp [due, pin]

theorem mem_dueEvents_axis {x : AxisState} {c : Instr} :
    c ∈ x.dueEvents a ↔
      (x.ramp.overdue = true ∧ c = .stepPulse a) ∨
      ((∃ us, x.drive.stepHigh = some us ∧ 5 ≤ us) ∧ c = .stepHighTimeEnd a) ∨
      ((∃ q, x.drive.sample = some q ∧ 4 ≤ q.elapsed) ∧ c = .readbackSample a x.drive.stepPin x.drive.dirPin) ∨
      ((x.mode = .dwelling ∧ x.dwell = 0) ∧ c = .dwellExpiry a) ∨
      (x.sens.due x.config.filter = true ∧
        (x.sens.pin = x.config.activeLevel ∧ c = .leadingEdge a ∨ x.sens.pin ≠ x.config.activeLevel ∧ c = .trailingEdge a)) ∨
      (x.drive.flt.due Config.lineFilter = true ∧
        (x.drive.flt.pin = .low ∧ c = .fltAssertion a ∨ x.drive.flt.pin ≠ .low ∧ c = .fltDeassertion a)) := by
  have high : x.drive.stepHigh.any (Config.stepHighTime ≤ ·) = true ↔ ∃ us, x.drive.stepHigh = some us ∧ 5 ≤ us := by
    simp only [Option.any_eq_true, decide_eq_true_eq]
    rfl
  have sample : x.drive.sample.any (Config.sampleTime ≤ ·.elapsed) = true ↔ ∃ q, x.drive.sample = some q ∧ 4 ≤ q.elapsed := by
    simp only [Option.any_eq_true, decide_eq_true_eq]
    rfl
  have single {p : Prop} [Decidable p] {e : Instr} : c ∈ (if p then [e] else []) ↔ p ∧ c = e := by
    split <;> simp [*]
  simp only [AxisState.dueEvents, List.mem_append, mem_filterEvent, single, or_assoc, high, sample]

/-- The due events of the part (R77, R137). -/
theorem mem_dueEvents {c : Instr} (operating : s.inReset = false) :
    c ∈ s.dueEvents ↔
      (∃ b, c ∈ (s.ax b).dueEvents b) ∨ (∃ g, (s.gate g).timer = some 0 ∧ c = .gateTimerExpiry g) ∨
      (s.stop.due Config.lineFilter = true ∧
        (s.stop.pin = .low ∧ c = .stopAssertion ∨ s.stop.pin ≠ .low ∧ c = .stopDeassertion)) := by
  have axes : (∃ b, c ∈ (s.ax b).dueEvents b) ↔
      c ∈ (s.ax .A).dueEvents .A ∨ c ∈ (s.ax .B).dueEvents .B ∨ c ∈ (s.ax .C).dueEvents .C ∨ c ∈ (s.ax .D).dueEvents .D := by
    constructor
    · rintro ⟨b, h⟩
      cases b <;> simp [h]
    · rintro (h | h | h | h) <;> exact ⟨_, h⟩
  rw [axes, State.dueEvents, if_neg (by simp [operating])]
  simp only [List.mem_append, List.mem_map, List.mem_filter, List.mem_finRange, true_and, mem_filterEvent, decide_eq_true_eq,
    eq_comm (b := c), or_assoc]

theorem ne_low_iff {l : Level} : l ≠ .low ↔ l = .high := by cases l <;> simp

section Due
variable (operating : s.inReset = false)
include operating

theorem stepPulse_due : .stepPulse a ∈ s.dueEvents ↔ ∃ st, (s.ax a).ramp.step = some st ∧ st.interval ≤ (s.ax a).ramp.elapsed := by
  simp [mem_dueEvents operating, mem_dueEvents_axis, overdue_iff]

theorem stepHighTimeEnd_due : .stepHighTimeEnd a ∈ s.dueEvents ↔ ∃ us, (s.ax a).drive.stepHigh = some us ∧ 5 ≤ us := by
  simp [mem_dueEvents operating, mem_dueEvents_axis]

theorem readbackSample_due (step dir : Level) :
    .readbackSample a step dir ∈ s.dueEvents ↔
      step = (s.ax a).drive.stepPin ∧ dir = (s.ax a).drive.dirPin ∧ ∃ q, (s.ax a).drive.sample = some q ∧ 4 ≤ q.elapsed := by
  simp only [mem_dueEvents operating, mem_dueEvents_axis]
  constructor
  · rintro (⟨b, h⟩ | ⟨g, -, h⟩ | ⟨-, h⟩)
    · simp only [reduceCtorEq, and_false, or_false, false_or, Instr.readbackSample.injEq] at h
      obtain ⟨sample, rfl, rfl, rfl⟩ := h
      exact ⟨rfl, rfl, sample⟩
    · cases h
    · simp at h
  · rintro ⟨rfl, rfl, sample⟩
    exact .inl ⟨a, .inr (.inr (.inl ⟨sample, rfl⟩))⟩

theorem dwellExpiry_due : .dwellExpiry a ∈ s.dueEvents ↔ (s.ax a).mode = .dwelling ∧ (s.ax a).dwell = 0 := by
  simp [mem_dueEvents operating, mem_dueEvents_axis]

theorem leadingEdge_due :
    .leadingEdge a ∈ s.dueEvents ↔
      (s.ax a).sens.pin = (s.ax a).config.activeLevel ∧ ∃ us, (s.ax a).sens.count = some us ∧ (s.ax a).config.filter ≤ us := by
  simp [mem_dueEvents operating, mem_dueEvents_axis, due_iff, and_comm]

theorem trailingEdge_due :
    .trailingEdge a ∈ s.dueEvents ↔
      (s.ax a).sens.pin ≠ (s.ax a).config.activeLevel ∧ ∃ us, (s.ax a).sens.count = some us ∧ (s.ax a).config.filter ≤ us := by
  simp [mem_dueEvents operating, mem_dueEvents_axis, due_iff, and_comm]

theorem fltAssertion_due :
    .fltAssertion a ∈ s.dueEvents ↔ (s.ax a).drive.flt.pin = .low ∧ ∃ us, (s.ax a).drive.flt.count = some us ∧ 10 ≤ us := by
  simp [mem_dueEvents operating, mem_dueEvents_axis, due_iff, Config.lineFilter, and_comm]

theorem fltDeassertion_due :
    .fltDeassertion a ∈ s.dueEvents ↔ (s.ax a).drive.flt.pin = .high ∧ ∃ us, (s.ax a).drive.flt.count = some us ∧ 10 ≤ us := by
  rw [← ne_low_iff]
  simp [mem_dueEvents operating, mem_dueEvents_axis, due_iff, Config.lineFilter, and_comm]

theorem gateTimerExpiry_due (g : GateTag) : .gateTimerExpiry g ∈ s.dueEvents ↔ (s.gate g).timer = some 0 := by
  simp [mem_dueEvents operating, mem_dueEvents_axis]

theorem stopAssertion_due : .stopAssertion ∈ s.dueEvents ↔ s.stop.pin = .low ∧ ∃ us, s.stop.count = some us ∧ 10 ≤ us := by
  simp [mem_dueEvents operating, mem_dueEvents_axis, due_iff, Config.lineFilter, and_comm]

theorem stopDeassertion_due : .stopDeassertion ∈ s.dueEvents ↔ s.stop.pin = .high ∧ ∃ us, s.stop.count = some us ∧ 10 ≤ us := by
  rw [← ne_low_iff]
  simp [mem_dueEvents operating, mem_dueEvents_axis, due_iff, Config.lineFilter, and_comm]

end Due

/-! ## Steps on an empty queue (log 2, log 3) -/

section Empty
variable (empty : s.pending = [])
include empty

theorem step_of_none_due (none : s.dueEvents = []) : step s = .next s.tick := by
  simp only [step, empty, State.nextDue, none]

theorem step_of_one_due {c : Instr} (one : s.dueEvents = [c]) : step s = exec c s := by
  simp only [step, empty, State.nextDue, one]

theorem step_of_several_due (several : 1 < s.dueEvents.length) :
    ∃ c ∈ s.dueEvents, step s = exec c { s with choices := s.choices + 1 } := by
  match due : s.dueEvents, several with
  | c :: d :: rest, _ =>
    have next : s.nextDue = some ((c :: d :: rest).getD (Config.dueChoice s.choices % ((d :: rest).length + 1)) c,
        { s with choices := s.choices + 1 }) := by
      simp only [State.nextDue, due]
    have mem := (nextDue_cases next).1
    rw [due] at mem
    refine ⟨_, mem, ?_⟩
    simp only [step, empty, next]

end Empty

/-! ## Events with nothing to act on (log 1, log 7) -/

theorem operating_of_same {f : State → State} (h : f s = s) : s.operating f = s := by
  rcases State.operating_cases s f with ⟨-, e⟩ | ⟨-, e⟩
  · exact e
  · exact e.trans h

theorem not_counting {f : FilteredInput} {level : Level} (h : f.count = none ∨ f.pin ≠ level) : ¬f.counting level = true := by
  rcases h with h | h <;> simp [FilteredInput.counting, h]

theorem exec_of_same {c : Instr} {f : State → State} (h : exec c s = .next (s.operating f)) (same : f s = s) : exec c s = .next s := by
  rw [h, operating_of_same same]

theorem exec_leadingEdge_of_same (h : (s.ax a).sens.count = none ∨ (s.ax a).sens.pin ≠ (s.ax a).config.activeLevel) :
    exec (.leadingEdge a) s = .next s := exec_of_same rfl (if_neg (not_counting h))

theorem exec_trailingEdge_of_same (h : (s.ax a).sens.count = none ∨ (s.ax a).sens.pin ≠ otherLevel (s.ax a).config.activeLevel) :
    exec (.trailingEdge a) s = .next s := exec_of_same rfl (if_neg (not_counting h))

theorem exec_fltAssertion_of_same (h : (s.ax a).drive.flt.count = none ∨ (s.ax a).drive.flt.pin ≠ .low) :
    exec (.fltAssertion a) s = .next s := exec_of_same rfl (if_neg (not_counting h))

theorem exec_fltDeassertion_of_same (h : (s.ax a).drive.flt.count = none ∨ (s.ax a).drive.flt.pin ≠ .high) :
    exec (.fltDeassertion a) s = .next s := exec_of_same rfl (if_neg (not_counting h))

theorem exec_stopAssertion_of_same (h : s.stop.count = none ∨ s.stop.pin ≠ .low) : exec .stopAssertion s = .next s :=
  exec_of_same rfl (if_neg (not_counting h))

theorem exec_stopDeassertion_of_same (h : s.stop.count = none ∨ s.stop.pin ≠ .high) : exec .stopDeassertion s = .next s :=
  exec_of_same rfl (if_neg (not_counting h))

/-- What 1 µs moves on an axis. -/
theorem tick_axis_eq (x : AxisState) :
    x.tick =
      { x with
        ramp := { x.ramp with elapsed := if x.ramp.step = none then x.ramp.elapsed else x.ramp.elapsed + 1 }
        dwell := x.dwell - 1
        sens := { x.sens with count := x.sens.count.map (· + 1) }
        drive :=
          { x.drive with
            stepHigh := x.drive.stepHigh.map (· + 1)
            sample := x.drive.sample.map fun q => { q with elapsed := q.elapsed + 1 }
            flt := { x.drive.flt with count := x.drive.flt.count.map (· + 1) } } } := by
  cases step : x.ramp.step <;> simp [AxisState.tick, FilteredInput.tick, step]

/-- Settles O3: the step on an empty queue, the due conditions and the tick item by item, and the events without effect. -/
theorem emptyQueueRunsDueEventsThenTime : Obligations.EmptyQueueRunsDueEventsThenTime := by
  refine fun s => ⟨fun empty => ⟨step_of_none_due empty, fun c => step_of_one_due empty, step_of_several_due empty⟩,
    fun operating => ⟨fun a => ⟨stepPulse_due operating, stepHighTimeEnd_due operating, readbackSample_due operating,
      dwellExpiry_due operating, leadingEdge_due operating, trailingEdge_due operating, fltAssertion_due operating,
      fltDeassertion_due operating, (ax_tick s a operating).trans (tick_axis_eq _)⟩,
      fun g => ⟨gateTimerExpiry_due operating g, gate_tick s g operating⟩, stopAssertion_due operating,
      stopDeassertion_due operating, ?_⟩,
    fun a => ⟨fun none => exec_of_same rfl (if_neg (by simp [none])), fun none => exec_of_same rfl (if_neg (by simp [none])),
      fun none step dir => exec_of_same rfl ?_, fun other => exec_of_same rfl (if_neg other),
      fun none => ⟨exec_leadingEdge_of_same (.inl none), exec_trailingEdge_of_same (.inl none)⟩,
      fun inactive => exec_leadingEdge_of_same (.inr inactive),
      fun active => exec_trailingEdge_of_same (.inr (active ▸ (State.otherLevel_ne _).symm)),
      fun none => ⟨exec_fltAssertion_of_same (.inl none), exec_fltDeassertion_of_same (.inl none)⟩,
      fun high => exec_fltAssertion_of_same (.inr (by simp [high])), fun low => exec_fltDeassertion_of_same (.inr (by simp [low]))⟩,
    fun g => ⟨fun none => exec_of_same rfl (if_neg (by simp [none])), fun incomplete => exec_of_same rfl (if_neg ?_)⟩,
    fun none => ⟨exec_stopAssertion_of_same (.inl none), exec_stopDeassertion_of_same (.inl none)⟩,
    fun high => exec_stopAssertion_of_same (.inr (by simp [high])), fun low => exec_stopDeassertion_of_same (.inr (by simp [low])),
    fun nothing => exec_of_same rfl (settle_of_nothingToGrant nothing)⟩
  · rw [State.tick, operating_of_not_inReset s _ operating]
    rfl
  · simp only [State.takeSample, none]
  · rcases incomplete with h | h <;> simp [Gate.complete, h]

end Sys2Proof.Machine
end


section
/-! SUPPORT. Proofs about an axis in REPORTING: the place it is granted, and the faults and stops that find it waiting. -/

namespace Sys2Proof.Machine

variable {s : State} {a b : Axis}

namespace State

/-! ## The operations of a stop reach their own axis alone -/

theorem ax_endAtRest_of_ne (ne : b ≠ a) (s : State) : (s.endAtRest a).ax b = s.ax b := by
  unfold State.endAtRest
  dsimp only
  split
  · exact ax_endMove_of_ne s a ne _ _
  · exact ax_endMove_of_ne s a ne _ _
  · rfl

theorem ax_replan_of_ne (ne : b ≠ a) (s : State) (r : Nat) : (s.replan a r).ax b = s.ax b := by
  rw [replan_eq]
  split
  · rw [ax_endAtRest_of_ne ne, ax_modAx_of_ne _ ne]
  · exact ax_modAx_of_ne _ ne _

theorem ax_pulse_of_ne (ne : b ≠ a) (s : State) : (s.pulse a).ax b = s.ax b := by
  unfold State.pulse
  split
  · rfl
  dsimp only
  split
  · rw [ax_endAtRest_of_ne ne, ax_modAx_of_ne _ ne]
  split
  · rw [ax_replan_of_ne ne, ax_modAx_of_ne _ ne, ax_modAx_of_ne _ ne]
  · rw [ax_replan_of_ne ne, ax_modAx_of_ne _ ne]

theorem ax_replanNow_of_ne (ne : b ≠ a) (s : State) (r : Nat) : (s.replanNow a r).ax b = s.ax b := by
  unfold State.replanNow
  dsimp only
  split
  · rw [ax_pulse_of_ne ne, ax_replan_of_ne ne]
  · exact ax_replan_of_ne ne s r

theorem ax_controlledStop_of_ne (ne : b ≠ a) (s : State) (k : Finding) : (s.controlledStop a (some k)).ax b = s.ax b := by
  rw [controlledStop_eq, ax_replanNow_of_ne ne]
  exact ax_setAx_of_ne s ne _

theorem ax_enterHalted_of_ne (ne : b ≠ a) (s : State) (cause : HaltCause) : (s.enterHalted a cause).ax b = s.ax b :=
  ax_setAx_of_ne s ne _

theorem ax_stopAxis_of_ne (ne : b ≠ a) (source : StopSource) (s : State) : (State.stopAxis source a s).ax b = s.ax b := by
  have running : (match s.style with
      | .controlled => s.controlledStop a (some (.stopped source))
      | .immediate => s.endMove a (.stopped source) (s.ax a).ramp.stepsRun).ax b = s.ax b := by
    split
    · exact ax_controlledStop_of_ne ne s _
    · exact ax_endMove_of_ne s a ne _ _
  unfold State.stopAxis
  dsimp only
  split
  · exact running
  · exact running
  · exact running
  · exact ax_endMove_of_ne s a ne _ _
  · rw [ax_enterHalted_of_ne ne, ax_modAx_of_ne _ ne, ax_withdraw]
  · exact ax_enterHalted_of_ne ne s _
  · exact ax_modAx_of_ne s ne _
  all_goals rfl

/-! ## A stop that finds its axis in REPORTING (R142) -/

/-- An axis that only its own visit changes, visited once. -/
theorem ax_forAxes {f : Axis → State → State} (others : ∀ a b u, b ≠ a → (f a u).ax b = u.ax b) {y : AxisState}
    (visit : ∀ u, u.ax a = s.ax a → (f a u).ax a = y) : (State.forAxes f s).ax a = y := by
  cases a with
  | A => rw [State.forAxes, others .D .A _ (by decide), others .C .A _ (by decide), others .B .A _ (by decide)]; exact visit s rfl
  | B =>
    rw [State.forAxes, others .D .B _ (by decide), others .C .B _ (by decide)]
    exact visit _ (others .A .B s (by decide))
  | C =>
    rw [State.forAxes, others .D .C _ (by decide)]
    exact visit _ ((others .B .C _ (by decide)).trans (others .A .C s (by decide)))
  | D =>
    exact visit _ (((others .C .D _ (by decide)).trans (others .B .D _ (by decide))).trans (others .A .D s (by decide)))

/-- The report stays, and a CONTINUE path becomes HALTED with the cause of the stop. -/
theorem ax_stopAll_of_reporting {o : Offer} (reporting : (s.ax a).mode = .reporting) (offer : (s.ax a).offer = some o)
    (source : StopSource) :
    (s.stopAll source).ax a =
      { s.ax a with offer := some { o with path := if o.path = .cont then .halted source.cause else o.path } } := by
  refine ax_forAxes (fun a b u ne => ax_stopAxis_of_ne ne source u) fun u same => ?_
  have mode : (u.ax a).mode = .reporting := by rw [same]; exact reporting
  have visit : State.stopAxis source a u = u.modAx a fun x =>
      { x with offer := x.offer.map fun o => { o with path := if o.path = .cont then .halted source.cause else o.path } } := by
    simp only [State.stopAxis, mode]
  rw [visit, ax_modAx_self, same, offer]
  rfl

end State

theorem exec_haltall (operating : s.inReset = false) : exec .haltall s = .next ((s.result .ok).stopAll .command).settle :=
  congrArg _ (operating_of_not_inReset s State.applyHaltall operating)

/-- The part with an assertion of /STOP accepted and STOPIN latched, before the stop reaches the axes (R137). -/
def State.stopAsserted (s : State) : State :=
  ({ s with stop := { s.stop with qualified := .low, count := none } } : State).latch flagSTOPIN

theorem exec_stopAssertion (operating : s.inReset = false) (counting : s.stop.counting .low = true) :
    exec .stopAssertion s = .next (s.stopAsserted.stopAll .line).settle := by
  have pin := State.pin_of_counting counting
  have accept : s.stop.accept = { s.stop with qualified := .low, count := none } :=
    congrArg (fun level => ({ s.stop with qualified := level, count := none } : FilteredInput)) pin
  refine congrArg _ ((operating_of_not_inReset s _ operating).trans ((if_pos counting).trans ?_))
  rw [State.takeStop, if_pos pin, accept]
  rfl

/-- Settles O59. -/
theorem reportingAxisKeepsItsReport : Obligations.ReportingAxisKeepsItsReport := by
  intro s a o operating full reporting offer
  refine ⟨fun counting => ?_, ?_, fun counting => ?_⟩
  · rw [exec_fltAssertion operating counting,
      State.driveFault_of_reporting (by rw [ax_setAx_self]; exact reporting), ax_setAx_self, setAx_setAx,
      settle_of_full _ (by exact full.ge)]
    rfl
  · refine ⟨_, exec_haltall operating, ?_⟩
    have same : ((s.result .ok).stopAll .command).reports = s.reports := (State.Engine.stopAll (s.result .ok) .command).reports
    rw [settle_of_full _ (by rw [same]; exact full.ge)]
    exact State.ax_stopAll_of_reporting (s := s.result .ok) reporting offer .command
  · refine ⟨_, exec_stopAssertion operating counting, ?_⟩
    have same : (s.stopAsserted.stopAll .line).reports = s.reports := (State.Engine.stopAll s.stopAsserted .line).reports
    rw [settle_of_full _ (by rw [same]; exact full.ge)]
    exact State.ax_stopAll_of_reporting (s := s.stopAsserted) reporting offer .line

/-! ## A place that becomes free (R126 to R129, R133) -/

/-- One free place and the arbiter's choice: a grant, in the way that the axis owes and its path say. -/
theorem exec_of_freed {freed : State} {c : Instr} (operating : s.inReset = false)
    (h : c = .pop ∧ (∃ d, s.reports.reports = d :: freed.reports.reports) ∧
        freed = { s with
          cres := .ok, reports := { s.reports with reports := freed.reports.reports, pointer := 0 } } ∨
      c = .placeGranted ∧ freed = s) (places : freed.reports.reports.length = 15) (next : freed.nextCandidate = some a) :
    exec c s = .next (freed.grant a) := by
  rw [← settle_of_one_place freed places next]
  rcases h with ⟨rfl, ⟨d, list⟩, is⟩ | ⟨rfl, rfl⟩
  · rw [exec_pop operating, applyPop_of_cons list]
    exact congrArg (fun t : State => Host.Outcome.next t.settle) is.symm
  · exact congrArg _ (operating_of_not_inReset _ State.settle operating)

/-- Settles O40: the arbiter's choice, then the three ways on from its grant. -/
theorem freedPlaceIsGrantedInTurn : Obligations.FreedPlaceIsGrantedInTurn := by
  intro s freed c a o operating event places next offer granted
  have same : freed.axes = s.axes ∧ freed.iflag = s.iflag ∧ freed.reports.last = s.reports.last ∧ freed.reports.seq = s.reports.seq := by
    rcases event with ⟨-, -, is⟩ | ⟨-, is⟩ <;> rw [is] <;> exact ⟨rfl, rfl, rfl, rfl⟩
  obtain ⟨axes, iflag, last, seq⟩ := same
  have ax : freed.ax = s.ax := by funext b; simp only [State.ax, axes]
  have there : (freed.ax a).offer = some o := by rw [ax]; exact offer
  have grant : exec c s = .next (freed.grant a) :=
    exec_of_freed operating event places (by rw [State.nextCandidate, last, ax]; exact next)
  have granted_eq : granted = (freed.deposit o.report).setAx a { freed.ax a with offer := none } := by
    simp only [granted, ← axes, ← iflag, ← seq, ← ax]
    rfl
  refine ⟨fun cause owed path => ?_, fun owed path => ?_, fun detail owed => ?_⟩
  · rw [grant, grant_of_halted freed a there (by rw [ax]; exact owed) path, State.enterHalted, modAx_modAx]
    simp only [granted, ← axes, ← iflag, ← seq, ← ax]
    rfl
  · rw [grant, grant_of_cont freed a there (by rw [ax]; exact owed) path, granted_eq]
    rfl
  · rw [grant, grant_of_owed freed a there (by rw [ax]; exact owed), State.offerReport, modAx_modAx]
    simp only [granted, ← axes, ← iflag, ← seq, ← ax]
    rfl

end Sys2Proof.Machine
end


section
/-! SUPPORT. Several axes at one event: the four visited in turn, and the reports they offer granted in the arbiter's order. -/

namespace Sys2Proof.Machine

variable {s t u : State} {a : Axis} {m : Move}

/-! ## Visits (chapters 4 and 8) -/

/-- What one visit leaves of its axis, and what it does beside: the move whose slot it returns, the gate the axis is withdrawn
from, and whether HALT is latched. -/
structure Visit where
  axis : AxisState
  gone : Option Move := none
  left : Option GateTag := none
  halts : Bool := false

namespace State

def visit (s : State) (a : Axis) (v : Visit) : State :=
  let released := match v.gone with
    | none => s
    | some m => s.release m
  let left := match v.left with
    | none => released
    | some g => released.modGate g (·.withdraw a)
  let there := left.setAx a v.axis
  if v.halts then there.latch flagHALT else there

/-- The four axes visited in turn. -/
def visitAll (s : State) (v : Axis → Visit) : State := State.forAxes (fun a u => u.visit a (v a)) s

/-- What visits leave everywhere but in the axes and in what their moves hold. -/
def Framed (s t : State) : Prop :=
  t = { s with axes := t.axes, gates := t.gates, profiles := t.profiles, poolFree := t.poolFree, iflag := t.iflag }

theorem Framed.trans (h : s.Framed t) (k : t.Framed u) : s.Framed u := by
  rw [Framed] at *
  rw [h] at k
  exact k

theorem framed_release (s : State) (m : Move) : s.Framed (s.release m) := by rw [Framed, release_eq]

theorem framed_visit (s : State) (a : Axis) (v : Visit) : s.Framed (s.visit a v) := by
  obtain ⟨x, gone, left, halts⟩ := v
  have ends (t : State) (h : s.Framed t) :
      s.Framed (if halts then (t.setAx a x).latch flagHALT else t.setAx a x) := by
    refine h.trans ?_
    cases halts <;> rfl
  cases gone with
  | none => cases left <;> exact ends _ rfl
  | some m => cases left <;> exact ends _ ((framed_release s m).trans rfl)

theorem ax_visit (s : State) (a b : Axis) (v : Visit) : (s.visit a v).ax b = if b = a then v.axis else s.ax b := by
  obtain ⟨x, gone, left, halts⟩ := v
  have ends (t : State) (h : t.ax b = s.ax b) :
      (if halts then (t.setAx a x).latch flagHALT else t.setAx a x).ax b = if b = a then x else s.ax b := by
    rw [← h, ← ax_setAx t a b x]
    cases halts <;> rfl
  cases gone with
  | none => cases left <;> exact ends _ rfl
  | some m => cases left <;> exact ends _ (ax_release s b m)

theorem poolFree_visit (s : State) (a : Axis) (v : Visit) : (s.visit a v).poolFree = s.poolFree + v.gone.toList.length := by
  obtain ⟨x, gone, left, halts⟩ := v
  have ends (t : State) :
      (if halts then (t.setAx a x).latch flagHALT else t.setAx a x).poolFree = t.poolFree := by
    cases halts <;> rfl
  cases gone with
  | none => cases left <;> exact ends _
  | some m => cases left <;> exact (ends _).trans (release_poolFree s m)

theorem prof_visit (s : State) (a : Axis) (v : Visit) (p : ProfileNo) : (s.visit a v).prof p =
    { s.prof p with useCount := (s.prof p).useCount - v.gone.toList.countP fun m => m.task.profile? == some p } := by
  obtain ⟨x, gone, left, halts⟩ := v
  have ends (t : State) :
      (if halts then (t.setAx a x).latch flagHALT else t.setAx a x).prof p = t.prof p := by
    cases halts <;> rfl
  cases gone with
  | none => cases left <;> exact ends _
  | some m => cases left <;> exact (ends _).trans ((Local.release s a m).prof p)

theorem gate_visit (s : State) (a : Axis) (v : Visit) (g : GateTag) : (s.visit a v).gate g =
    { (if v.left = some g then (s.gate g).withdraw a else s.gate g) with
      useCount := (s.gate g).useCount - v.gone.toList.countP fun m => m.gate == some g } := by
  obtain ⟨x, gone, left, halts⟩ := v
  have ends (t : State) :
      (if halts then (t.setAx a x).latch flagHALT else t.setAx a x).gate g = t.gate g := by
    cases halts <;> rfl
  have leaves (t : State) (h : GateTag) :
      (t.modGate h (·.withdraw a)).gate g = if some h = some g then (t.gate g).withdraw a else t.gate g := by
    rw [gate_modGate]
    by_cases e : g = h
    · rw [if_pos e, if_pos (congrArg some e.symm), e]
    · rw [if_neg e, if_neg fun k => e (Option.some.inj k).symm]
  cases gone with
  | none =>
    cases left with
    | none => exact ends s
    | some h =>
      refine (ends _).trans ((leaves s h).trans ?_)
      dsimp only
      split <;> rfl
  | some m =>
    have released := (Local.release s a m).gate g
    cases left with
    | none => exact (ends _).trans released
    | some h =>
      refine (ends _).trans ((leaves _ h).trans ?_)
      rw [released]
      dsimp only
      split <;> rfl

theorem iflag_visit (s : State) (a : Axis) (v : Visit) :
    (s.visit a v).iflag = if v.halts then s.iflag ||| flagHALT else s.iflag := by
  obtain ⟨x, gone, left, halts⟩ := v
  have ends (t : State) (h : t.iflag = s.iflag) :
      (if halts then (t.setAx a x).latch flagHALT else t.setAx a x).iflag = if halts then s.iflag ||| flagHALT else s.iflag := by
    rw [← h]
    cases halts <;> rfl
  cases gone with
  | none => cases left <;> exact ends _ rfl
  | some m => cases left <;> exact ends _ (congrArg State.iflag (framed_release s m) |>.trans (by rw [release_eq]))

/-! ## The four visits -/

/-- The moves whose slots the visits return. -/
def goneAll (v : Axis → Visit) : List Move := Axis.all.flatMap fun a => (v a).gone.toList

theorem framed_visitAll (s : State) (v : Axis → Visit) : s.Framed (s.visitAll v) :=
  (((framed_visit s .A _).trans (framed_visit _ .B _)).trans (framed_visit _ .C _)).trans (framed_visit _ .D _)

theorem ax_visitAll (s : State) (v : Axis → Visit) (a : Axis) : (s.visitAll v).ax a = (v a).axis :=
  ax_forAxes (fun a b u ne => by rw [ax_visit, if_neg ne]) fun u _ => by rw [ax_visit, if_pos rfl]

theorem poolFree_visitAll (s : State) (v : Axis → Visit) : (s.visitAll v).poolFree = s.poolFree + (goneAll v).length := by
  simp only [visitAll, State.forAxes, poolFree_visit, goneAll, Axis.all, List.flatMap_cons, List.flatMap_nil, List.length_append,
    List.length_nil]
  omega

theorem prof_visitAll (s : State) (v : Axis → Visit) (p : ProfileNo) : (s.visitAll v).prof p =
    { s.prof p with useCount := (s.prof p).useCount - (goneAll v).countP fun m => m.task.profile? == some p } := by
  simp only [visitAll, State.forAxes, prof_visit, goneAll, Axis.all, List.flatMap_cons, List.flatMap_nil, List.countP_append,
    List.countP_nil, Nat.sub_sub, Nat.add_zero, Nat.add_assoc]

theorem iflag_visitAll (s : State) (v : Axis → Visit) :
    (s.visitAll v).iflag = if Axis.all.any (fun a => (v a).halts) then s.iflag ||| flagHALT else s.iflag := by
  have twice (f : BitVec 3) : f ||| flagHALT ||| flagHALT = f ||| flagHALT := by rw [BitVec.or_assoc, BitVec.or_self]
  simp only [visitAll, State.forAxes, iflag_visit, Axis.all, List.any_cons, List.any_nil, Bool.or_false]
  cases (v .A).halts <;> cases (v .B).halts <;> cases (v .C).halts <;> cases (v .D).halts <;> simp [twice]

end State

/-- The gate with some axes withdrawn in turn. -/
def Gate.withdrawn (q : Gate) (leaves : Axis → Bool) : Gate :=
  let one := fun (q : Gate) (a : Axis) => if leaves a then q.withdraw a else q
  one (one (one (one q .A) .B) .C) .D

theorem Gate.withdrawn_of_none {q : Gate} {leaves : Axis → Bool} (h : ∀ a, leaves a = false) : q.withdrawn leaves = q := by
  simp [Gate.withdrawn, h]

/-- Axes of the arrival set of `q` have left it, and the last of them has stopped the timer (R79). -/
structure Gate.Leaving (q r : Gate) : Prop where
  gate : r = { q with arrivals := r.arrivals, timer := if r.arrivals = 0 ∧ q.arrivals ≠ 0 then none else q.timer }
  within : ∀ b, inSet r.arrivals b = true → inSet q.arrivals b = true

theorem Gate.Leaving.withdraw {q r : Gate} (h : q.Leaving r) {a : Axis} (waits : inSet q.arrivals a = true) :
    q.Leaving (r.withdraw a) where
  gate := by
    have some : q.arrivals ≠ 0#4 := fun none => by simp [none] at waits
    have withdraw : r.withdraw a =
        { r with
          arrivals := r.arrivals &&& ~~~(axisBit a)
          timer := if r.arrivals &&& ~~~(axisBit a) = 0#4 then none else r.timer } := rfl
    rw [withdraw]
    by_cases last : r.arrivals &&& ~~~(axisBit a) = 0#4
    · rw [h.gate]
      simp [last, some]
    · have more : r.arrivals ≠ 0#4 := fun none => by simp [none] at last
      rw [h.gate]
      simp [last, more]
  within b inside := by
    rw [show (r.withdraw a).arrivals = r.arrivals &&& ~~~(axisBit a) from rfl, inSet_and_not_axisBit] at inside
    exact h.within b (Bool.and_eq_true_iff.1 inside).1

/-- All waiting axes withdrawn: no arrival is left, and a timer that could run is stopped (R79). -/
theorem Gate.withdrawn_of_all {q : Gate} {leaves : Axis → Bool} (h : ∀ a, leaves a = inSet q.arrivals a) :
    q.withdrawn leaves = { q with arrivals := 0, timer := if q.arrivals = 0 then q.timer else none } := by
  have step {r : Gate} (a : Axis) (leaving : q.Leaving r) : q.Leaving (if leaves a then r.withdraw a else r) := by
    split
    · next leaves => exact leaving.withdraw ((h a).symm.trans leaves)
    · exact leaving
  have all : q.Leaving (q.withdrawn leaves) := step .D (step .C (step .B (step .A ⟨by simp, fun _ => id⟩)))
  have empty : (q.withdrawn leaves).arrivals = 0 := State.axisSet_ext fun b => by
    have one (r : Gate) (a : Axis) : inSet (if leaves a then r.withdraw a else r).arrivals b =
        (inSet r.arrivals b && !(leaves a && decide (b = a))) := by
      split
      · next leaves => rw [leaves]; exact inSet_and_not_axisBit r.arrivals a b
      · next stays => simp [stays]
    simp only [Gate.withdrawn, one]
    cases b <;> simp [h]
  rw [all.gate, empty]
  by_cases none : q.arrivals = 0 <;> simp [none]

namespace State

theorem gate_visitAll (s : State) (v : Axis → Visit) (g : GateTag) : (s.visitAll v).gate g =
    { (s.gate g).withdrawn (fun a => (v a).left == some g) with
      useCount := (s.gate g).useCount - (goneAll v).countP fun m => m.gate == some g } := by
  have step (q : Gate) (a : Axis) (n : Nat) :
      (if (v a).left = some g then ({ q with useCount := n } : Gate).withdraw a else { q with useCount := n }) =
        { (if ((v a).left == some g) = true then q.withdraw a else q) with useCount := n } := by
    simp only [beq_iff_eq]
    split <;> rfl
  simp only [visitAll, State.forAxes, gate_visit, goneAll, Axis.all, List.flatMap_cons, List.flatMap_nil, List.countP_append,
    List.countP_nil, Nat.add_zero, ← Nat.add_assoc, ← Nat.sub_sub, Gate.withdrawn, step]

/-! ## Visits that see their own axis alone -/

/-- What the visits of the other axes leave as it was, for the visit of this one. -/
structure Agrees (s : State) (a : Axis) (u : State) : Prop where
  axis : u.ax a = s.ax a
  decide : ∀ p, (u.prof p).decide = (s.prof p).decide
  framed : s.Framed u

theorem Agrees.refl (s : State) (a : Axis) : s.Agrees a s := ⟨rfl, fun _ => rfl, rfl⟩

theorem Agrees.visit {b : Axis} (h : s.Agrees b u) (ne : b ≠ a) (v : Visit) : s.Agrees b (u.visit a v) where
  axis := by rw [ax_visit, if_neg ne]; exact h.axis
  decide p := by rw [prof_visit]; exact h.decide p
  framed := h.framed.trans (framed_visit u a v)

theorem forAxes_eq_visitAll {f : Axis → State → State} {v : Axis → Visit}
    (h : ∀ a u, s.Agrees a u → f a u = u.visit a (v a)) : State.forAxes f s = s.visitAll v := by
  have hA := h .A s (.refl s .A)
  have hB := h .B _ ((Agrees.refl s .B).visit (a := .A) (by decide) (v .A))
  have hC := h .C _ (((Agrees.refl s .C).visit (a := .A) (by decide) (v .A)).visit (a := .B) (by decide) (v .B))
  have hD := h .D _ ((((Agrees.refl s .D).visit (a := .A) (by decide) (v .A)).visit (a := .B) (by decide) (v .B)).visit
    (a := .C) (by decide) (v .C))
  rw [visitAll, State.forAxes, State.forAxes, hA, hB, hC, hD]

end State
end Sys2Proof.Machine
end


section
/-! SUPPORT. The reports that several axes offer at one event, granted in the arbiter's order (R127, R128). -/

namespace Sys2Proof.Machine

variable {s t u : State} {a : Axis}

/-- After a grant to the first of the axes that offer, the arbiter considers the others in the same order (R128). -/
theorem filter_arbiterOrder_tail {offers : Axis → Bool} {last : Axis} {rest : List Axis}
    (h : (arbiterOrder last).filter offers = a :: rest) :
    (arbiterOrder a).filter (fun b => offers b && b != a) = rest := by
  cases hA : offers .A <;> cases hB : offers .B <;> cases hC : offers .C <;> cases hD : offers .D <;> cases last <;>
    simp only [arbiterOrder, List.filter_cons, List.filter_nil, hA, hB, hC, hD, if_true, Bool.false_eq_true, if_false,
      List.cons.injEq, reduceCtorEq] at h <;>
    obtain ⟨rfl, rfl⟩ := h <;>
    simp [arbiterOrder, hA, hB, hC, hD]

namespace State

/-- The axes that offer, each a report of its own with a HALTED path, and nothing owed. -/
def OffersHalt (s : State) (offers : Axis → Bool) (report : Axis → Report) (cause : Axis → HaltCause) : Prop :=
  ∀ a, (offers a = true →
      (s.ax a).offer = some { report := report a, path := .halted (cause a) } ∧ (s.ax a).owed = none ∧ (report a).axis = a) ∧
    (offers a = false → (s.ax a).offer = none)

/-- From `s` to `t` the axes of a list have been granted a place each, in its order, and are HALTED. -/
structure GrantedTo (s : State) (axes : List Axis) (report : Axis → Report) (cause : Axis → HaltCause) (t : State) : Prop where
  framed : t =
    { s with
      axes := t.axes, reports := s.deposited axes report
      iflag := if axes = [] then s.iflag else s.iflag ||| flagREPORT ||| flagHALT }
  axes : ∀ a, t.ax a =
    if a ∈ axes then { s.ax a with offer := none, mode := .halted, cause := (s.ax a).cause.enter (cause a) } else s.ax a

variable {offers : Axis → Bool} {report : Axis → Report} {cause : Axis → HaltCause}

section Granted
variable {axes : List Axis} (h : s.GrantedTo axes report cause t)
include h

theorem GrantedTo.poolFree : t.poolFree = s.poolFree := (congrArg State.poolFree h.framed).trans rfl

theorem GrantedTo.prof (p : ProfileNo) : t.prof p = s.prof p := (congrArg (·.prof p) h.framed).trans rfl

theorem GrantedTo.gate (g : GateTag) : t.gate g = s.gate g := (congrArg (·.gate g) h.framed).trans rfl

theorem GrantedTo.iflag : t.iflag = if axes = [] then s.iflag else s.iflag ||| flagREPORT ||| flagHALT :=
  (congrArg State.iflag h.framed).trans rfl

end Granted

theorem grantedTo_nil (s : State) : s.GrantedTo [] report cause s :=
  ⟨by simp [State.deposited], fun a => by simp⟩

/-- The part after one of the grants. -/
def grantedOne (s : State) (a : Axis) (r : Report) (cause : HaltCause) : State :=
  ((s.deposit r).setAx a { s.ax a with offer := none, mode := .halted, cause := (s.ax a).cause.enter cause }).latch flagHALT

theorem grant_of_offersHalt (h : s.OffersHalt offers report cause) (there : offers a = true) :
    s.grant a = s.grantedOne a (report a) (cause a) := by
  obtain ⟨offer, owed, -⟩ := (h a).1 there
  rw [grant_of_halted s a offer owed rfl, State.enterHalted, modAx_modAx]
  rfl

theorem ax_grantedOne (r : Report) (c : HaltCause) (b : Axis) : (s.grantedOne a r c).ax b =
    if b = a then { s.ax a with offer := none, mode := .halted, cause := (s.ax a).cause.enter c } else s.ax b :=
  ax_setAx (s.deposit r) a b _

theorem offersHalt_grantedOne (h : s.OffersHalt offers report cause) (r : Report) (c : HaltCause) :
    (s.grantedOne a r c).OffersHalt (fun b => offers b && b != a) report cause := fun b => by
  rw [ax_grantedOne]
  by_cases e : b = a
  · simp [e]
  · rw [if_neg e]
    simpa [e] using h b

theorem deposited_cons (own : (report a).axis = a) (c : HaltCause) (rest : List Axis) :
    (s.grantedOne a (report a) c).deposited rest report = s.deposited (a :: rest) report := by
  have later (i : Nat) : s.reports.seq + 1 + BitVec.ofNat 8 i = s.reports.seq + BitVec.ofNat 8 (i + 1) := by
    rw [BitVec.add_assoc, BitVec.add_comm 1, ← BitVec.ofNat_add_ofNat]
    rfl
  have queue : (s.grantedOne a (report a) c).reports =
      { s.reports with
        reports := s.reports.reports ++ [{ seq := s.reports.seq, report := report a }]
        seq := s.reports.seq + 1, last := a } :=
    congrArg (fun last => ({ s.reports with
      reports := s.reports.reports ++ [{ seq := s.reports.seq, report := report a }]
      seq := s.reports.seq + 1, last := last } : ReportQueue)) own
  rw [State.deposited, queue, State.deposited, List.zipIdx_cons, List.map_cons, List.zipIdx_succ, List.map_map, List.length_cons,
    List.getLastD_cons]
  simp only [later, List.append_assoc, List.cons_append, List.nil_append, BitVec.add_zero, Function.comp_def]

theorem GrantedTo.cons {rest : List Axis} (own : (report a).axis = a) (fresh : a ∉ rest)
    (h : (s.grantedOne a (report a) (cause a)).GrantedTo rest report cause t) : s.GrantedTo (a :: rest) report cause t where
  framed := by
    have flags (f : BitVec 3) : (if rest = [] then f ||| flagREPORT ||| flagHALT
        else f ||| flagREPORT ||| flagHALT ||| flagREPORT ||| flagHALT) = f ||| flagREPORT ||| flagHALT := by
      split
      · rfl
      · ext i; simp only [BitVec.getElem_or]; grind
    refine h.framed.trans ?_
    rw [deposited_cons own, if_neg (List.cons_ne_nil a rest), ← flags s.iflag]
    rfl
  axes b := by
    rw [h.axes, ax_grantedOne]
    by_cases e : b = a
    · subst e
      rw [if_neg fresh, if_pos rfl, if_pos List.mem_cons_self]
    · simp [e]

theorem grantPlaces_offersHalt (n : Nat) (h : s.OffersHalt offers report cause) :
    s.GrantedTo (((arbiterOrder s.reports.last).filter offers).take n) report cause (s.grantPlaces n) := by
  induction n generalizing s offers with
  | zero => rw [List.take_zero]; exact grantedTo_nil s
  | succ n ih =>
    have candidate : s.nextCandidate = ((arbiterOrder s.reports.last).filter offers).head? := by
      rw [List.head?_filter]
      refine congrArg (fun p => List.find? p _) (funext fun b => ?_)
      cases there : offers b with
      | false => rw [(h b).2 there]; rfl
      | true => rw [((h b).1 there).1]; rfl
    rw [State.grantPlaces, candidate]
    cases order : (arbiterOrder s.reports.last).filter offers with
    | nil => exact grantedTo_nil s
    | cons a rest =>
      have there : offers a = true := (List.mem_filter.1 (order ▸ List.mem_cons_self)).2
      have own := ((h a).1 there).2.2
      have next := ih (offersHalt_grantedOne (a := a) h (report a) (cause a))
      have last : (s.grantedOne a (report a) (cause a)).reports.last = a := own
      rw [last, filter_arbiterOrder_tail order, ← grant_of_offersHalt h there] at next
      show s.GrantedTo (a :: rest.take n) report cause (State.grantPlaces n (s.grant a))
      have fresh : a ∉ rest := by
        rw [← filter_arbiterOrder_tail order]
        simp
      rw [grant_of_offersHalt h there] at next ⊢
      exact next.cons own (fun inside => fresh (List.mem_of_mem_take inside))

/-- The reports that axes offer at one event, each with a HALTED path: the free places go to them in the arbiter's order, and with
the Report Queue full all wait (R50, R127, R128). -/
theorem settle_offersHalt (h : s.reports.reports.length < Config.reportPlaces → s.OffersHalt offers report cause) :
    s.GrantedTo (s.granted offers) report cause s.settle := by
  by_cases room : s.reports.reports.length < Config.reportPlaces
  · exact grantPlaces_offersHalt _ (h room)
  · have full : Config.reportPlaces ≤ s.reports.reports.length := by omega
    rw [settle_of_full s full, State.granted, Nat.sub_eq_zero_of_le full, List.take_zero]
    exact grantedTo_nil s

/-- The flags after visits that may latch HALT and the grants that follow them. -/
theorem settled_flags (f : BitVec 3) (none : Prop) [Decidable none] (halts : Bool) :
    let before := if halts then f ||| flagHALT else f
    let after := if none then before else before ||| flagREPORT ||| flagHALT
    (after.getLsbD 0 = true ↔ f.getLsbD 0 = true ∨ ¬none) ∧
    (after.getLsbD 1 = true ↔ f.getLsbD 1 = true ∨ ¬none ∨ halts = true) ∧ (after.getLsbD 2 = true ↔ f.getLsbD 2 = true) := by
  by_cases h : none <;> cases halts <;> simp only [h, if_true, if_false, Bool.false_eq_true] <;> clear h <;> revert f <;> decide

/-! ## Who is granted a place -/

/-- An axis that offers is granted a place or left without one. -/
theorem granted_append_ungranted (s : State) (offers : Axis → Bool) :
    s.granted offers ++ s.ungranted offers = (arbiterOrder s.reports.last).filter offers := List.take_append_drop _ _

theorem offers_of_granted (h : a ∈ s.granted offers) : offers a = true := (List.mem_filter.1 (List.mem_of_mem_take h)).2

theorem offers_of_ungranted (h : a ∈ s.ungranted offers) : offers a = true := (List.mem_filter.1 (List.mem_of_mem_drop h)).2

theorem not_granted_of_ungranted (h : a ∈ s.ungranted offers) : a ∉ s.granted offers := by
  have once : (s.granted offers ++ s.ungranted offers).Nodup := by
    rw [granted_append_ungranted]
    refine List.Nodup.filter _ ?_
    cases s.reports.last <;> decide
  exact fun granted => (List.nodup_append.1 once).2.2 a granted a h rfl

end State
end Sys2Proof.Machine
end


section
/-! SUPPORT. The operations of one axis as visits, and the expiry of a gate's timer. -/

namespace Sys2Proof.Machine

variable {s t u : State} {a : Axis} {m : Move}

namespace State

/-! ## The operations of one axis as visits -/

/-- A visit that leaves its axis as it is. -/
theorem visit_same (s : State) (a : Axis) : s.visit a { axis := s.ax a } = s := setAx_ax s a

/-- The end of a move, before any grant (R47). -/
theorem endMove_eq_visit (x : AxisState) (current : x.current = some m) (k : Finding) (aux : Nat) :
    (s.setAx a x).endMove a k aux = s.visit a
      { axis :=
          { x.clearMove with
            mode := .reporting
            offer := some
              { report := { axis := a, finding := k, tag := m.tag, position := x.position, aux := aux }, path := k.path } }
        gone := some m } := by
  rw [endMove_eq_endedWaiting (m := m) (by rw [ax_setAx_self]; exact current), endedWaiting_setAx]
  rfl

theorem enterHalted_eq_visit (s : State) (a : Axis) (cause : HaltCause) :
    s.enterHalted a cause =
      s.visit a { axis := { s.ax a with mode := .halted, cause := (s.ax a).cause.enter cause }, halts := true } := rfl

end State

/-! ## The expiry of a gate's timer (R78) -/

namespace State

/-- A GATED axis at the expiry of its gate's timer. -/
def timedOut (s : State) (g : GateTag) (a : Axis) : AxisState :=
  { (s.ax a).hold with
    mode := .reporting
    offer := some
      { report :=
          { axis := a, finding := .gateTimeout g, tag := ((s.ax a).current.map (·.tag)).getD 0, position := (s.ax a).position
            aux := (s.gate g).arrivals.toNat }
        path := .halted .gateTimeout } }

/-- The axes at the expiry of a gate's timer. -/
def atExpiry (s : State) (g : GateTag) (a : Axis) : AxisState :=
  if inSet (s.gate g).arrivals a then s.timedOut g a else s.ax a

theorem gated_of_waits (exact_s : s.ArrivalsExact) {g : GateTag} (waits : inSet (s.gate g).arrivals a = true) :
    (s.ax a).mode = .gated ∧ ∃ m, (s.ax a).current = some m ∧ m.gate = some g := by
  rw [exact_s g a (Axis.mem_all a), Bool.and_eq_true, beq_iff_eq, Option.any_eq_true] at waits
  obtain ⟨gated, m, current, gate⟩ := waits
  exact ⟨gated, m, current, beq_iff_eq.1 gate⟩

theorem expireGate_eq (exact_s : s.ArrivalsExact) (g : GateTag) :
    s.expireGate g = (s.modGate g fun q => { q with arrivals := 0, timer := none }).visitAll
      fun a => { axis := s.atExpiry g a } := by
  unfold State.expireGate
  dsimp only
  refine forAxes_eq_visitAll fun a u agrees => ?_
  have axis : u.ax a = s.ax a := agrees.axis
  rw [atExpiry]
  by_cases waits : inSet (s.gate g).arrivals a = true
  · rw [if_pos ⟨waits, by rw [axis]; exact (gated_of_waits exact_s waits).1⟩, if_pos waits, State.timeoutAxis,
      State.offerReport, modAx_modAx, State.modAx, axis]
    rfl
  · rw [if_neg fun both => waits both.1, if_neg waits, ← axis, visit_same]

theorem offersHalt_expireGate (exact_s : s.ArrivalsExact) (shaped : s.Shaped) (none : s.NoOffers) (g : GateTag) :
    (s.expireGate g).OffersHalt (inSet (s.gate g).arrivals)
      (fun a => { axis := a, finding := .gateTimeout g, tag := ((s.ax a).current.map (·.tag)).getD 0
                  position := (s.ax a).position, aux := (s.gate g).arrivals.toNat })
      (fun _ => .gateTimeout) := fun a => by
  rw [expireGate_eq exact_s, ax_visitAll]
  refine ⟨fun waits => ?_, fun out => ?_⟩
  · obtain ⟨gated, -⟩ := gated_of_waits exact_s waits
    dsimp only [atExpiry]
    rw [if_pos waits]
    exact ⟨rfl, (AxisState.shape (shaped a (Axis.mem_all a))).owed (by simp [gated]), rfl⟩
  · dsimp only [atExpiry]
    rw [if_neg (by simp [out])]
    exact none a (Axis.mem_all a)

end State

/-- Settles O52: the waiting moves become held, each with its offer, and the places go to them in turn. -/
theorem gateTimeoutHoldsEveryWaitingMove : Obligations.GateTimeoutHoldsEveryWaitingMove := by
  intro s g operating nothing shaped exact_s timer waits report
  have expiry : exec (.gateTimerExpiry g) s = .next (s.expireGate g).settle :=
    congrArg _ ((operating_of_not_inReset s _ operating).trans (if_pos (Option.isSome_iff_ne_none.2 timer)))
  have same : (s.expireGate g).reports = s.reports := (State.Engine.expireGate s g).reports
  have granted := State.settle_offersHalt (s := s.expireGate g) (offers := waits) (report := report) (cause := fun _ => .gateTimeout)
    fun room => State.offersHalt_expireGate exact_s shaped (nothing.resolve_right (by rw [same] at room; omega)) g
  have list : (s.expireGate g).granted waits = s.granted waits := by rw [State.granted, same]; rfl
  rw [list] at granted
  refine ⟨_, expiry, ?_, fun a _ => ?_⟩
  · refine granted.framed.trans ?_
    obtain ⟨axes, frame⟩ : ∃ axes, s.expireGate g =
        { s with axes := axes, gates := s.gates.set g { s.gate g with arrivals := 0, timer := none } } :=
      ⟨_, State.expireGate_eq exact_s g⟩
    rw [frame]
    rfl
  · have axis : (s.expireGate g).ax a = s.atExpiry g a := by rw [State.expireGate_eq exact_s, State.ax_visitAll]
    intro held
    refine ⟨fun out => ?_, fun there => ?_, fun left => ?_⟩
    · rw [granted.axes, if_neg fun there => by simp [State.offers_of_granted there] at out, axis, State.atExpiry,
        if_neg (by simp [show inSet (s.gate g).arrivals a = false from out])]
    · have waits := State.offers_of_granted there
      have shape := AxisState.shape (shaped a (Axis.mem_all a))
      have gated := (State.gated_of_waits exact_s waits).1
      rw [granted.axes, if_pos there, axis, State.atExpiry, if_pos waits]
      exact congrArg₂ (fun o c => ({ held with mode := .halted, offer := o, cause := c } : AxisState))
        (shape.gated gated).2.2.symm (congrArg (HaltCause.enter · .gateTimeout) (shape.cause (by simp [gated]) (by simp [gated])))
    · rw [granted.axes, if_neg (State.not_granted_of_ungranted left), axis, State.atExpiry,
        if_pos (State.offers_of_ungranted left)]
      rfl

end Sys2Proof.Machine
end


section
/-! SUPPORT. The proof about SOFTRESET: the examination of the axes as visits, and the reports it sets off. -/

namespace Sys2Proof.Machine

variable {s t u : State} {a : Axis}

/-- The SENS filter after a soft reset (R88, R108). -/
theorem compare_eq (f : FilteredInput) (active : Level) (time : Nat) :
    ({ f with qualified := otherLevel active } : FilteredInput).compare time =
      if f.pin = active ∧ time ≠ 0 then { pin := f.pin, qualified := otherLevel active, count := some 0 }
      else { pin := f.pin, qualified := f.pin, count := none } := by
  obtain ⟨pin, qualified, count⟩ := f
  have differs : pin = otherLevel active ↔ ¬pin = active := by cases pin <;> cases active <;> simp [otherLevel]
  by_cases same : pin = active
  · have other : pin ≠ otherLevel active := fun e => differs.1 e same
    rcases Nat.eq_zero_or_pos time with rfl | pos
    · simp [FilteredInput.compare, FilteredInput.restart, FilteredInput.due, FilteredInput.accept, other]
    · rw [compare_of_pos _ pos, if_pos ⟨same, Nat.ne_of_gt pos⟩]
      simp [FilteredInput.restart, other]
  · have other := differs.2 same
    simp [FilteredInput.compare, FilteredInput.restart, FilteredInput.due, same, ← other]

namespace State

/-- The part after a soft reset, STOPIN latched with /STOP low (R67). -/
def softResetLatched (s : State) : State :=
  if s.stop.qualified = .low then s.softReset.latch flagSTOPIN else s.softReset

theorem softResetLatched_eq (s : State) : s.softResetLatched =
    { s.softReset with iflag := if s.stop.qualified = .low then flagSTOPIN else 0 } := by
  unfold softResetLatched
  split
  · exact congrArg (fun f => ({ s.softReset with iflag := f } : State)) (by decide : (0 : BitVec 3) ||| flagSTOPIN = flagSTOPIN)
  · rfl

/-- Whether an axis is enabled. -/
def enabled (s : State) (a : Axis) : Bool := (s.ax a).mode != .disabled

/-- Whether the examination finds /FLT of an enabled axis low. -/
def faulty (s : State) (a : Axis) : Bool := s.enabled a && (s.ax a).drive.flt.qualified == .low

def softResetReport (a : Axis) : Report := { axis := a, finding := .driveFault .driverInput, tag := 0, position := 0, aux := 0 }

/-- What the examination makes of an axis (R67). -/
def examinedAxis (s : State) (a : Axis) : AxisState :=
  let x := (s.ax a).softReset
  if s.faulty a then
    { x with mode := .reporting, cause := .drive, offer := some { report := softResetReport a, path := .halted .drive } }
  else if s.enabled a && s.stop.qualified == .low then { x with mode := .halted, cause := .stopLine }
  else x

def examinedVisit (s : State) (a : Axis) : Visit :=
  { axis := s.examinedAxis a, halts := s.enabled a && s.stop.qualified == .low }

theorem mode_softReset_of_enabled (enabled : s.enabled a = true) : (s.ax a).softReset.mode = .idle :=
  if_neg (bne_iff_ne.1 enabled)

theorem examine_eq_visit (agrees : s.softResetLatched.Agrees a u) : State.examine a u = u.visit a (s.examinedVisit a) := by
  have axis : u.ax a = (s.ax a).softReset := by
    rw [agrees.axis, softResetLatched_eq]
    exact ax_softReset s a
  have stop : u.stop = s.stop := by
    rw [agrees.framed, softResetLatched_eq]
    rfl
  have flt : (u.ax a).drive.flt = (s.ax a).drive.flt := by rw [axis]; rfl
  cases on : s.enabled a with
  | false =>
    have disabled : (u.ax a).mode = .disabled := by
      rw [axis]; exact if_pos (by simpa [enabled] using on)
    have visit : s.examinedVisit a = { axis := u.ax a } := by simp [examinedVisit, examinedAxis, faulty, on, axis]
    rw [visit, visit_same, State.examine]
    simp [disabled, driveFault_of_disabled]
  | true =>
    have idle : (u.ax a).mode = .idle := by rw [axis]; exact mode_softReset_of_enabled on
    by_cases low : (s.ax a).drive.flt.qualified = .low
    · rw [examine_of_flt_low idle (by rw [flt]; exact low), axis, stop]
      by_cases line : s.stop.qualified = .low
      · have visit : s.examinedVisit a =
            { axis := { (s.ax a).softReset with
                mode := .reporting, cause := .drive, offer := some { report := softResetReport a, path := .halted .drive } }
              halts := true } := by simp [examinedVisit, examinedAxis, faulty, on, low, line]
        rw [if_pos line, if_pos line, visit]
        rfl
      · have visit : s.examinedVisit a =
            { axis := { (s.ax a).softReset with
                mode := .reporting, cause := .drive, offer := some { report := softResetReport a, path := .halted .drive } } } := by
          simp [examinedVisit, examinedAxis, faulty, on, low, line]
        rw [if_neg line, if_neg line, visit]
        rfl
    · by_cases line : s.stop.qualified = .low
      · have visit : s.examinedVisit a =
            { axis := { (s.ax a).softReset with mode := .halted, cause := .stopLine }, halts := true } := by
          simp [examinedVisit, examinedAxis, faulty, on, low, line]
        rw [examine_of_stop_low (by rw [stop]; exact line) idle, if_neg (by rw [flt]; exact low), enterHalted_eq_visit, axis, visit]
        rfl
      · have visit : s.examinedVisit a = { axis := u.ax a } := by
          simp [examinedVisit, examinedAxis, faulty, on, low, line, axis]
        rw [examine_of_stop_high (by rw [stop]; exact line), if_neg (by rw [flt]; exact low), visit, visit_same]

theorem examined_eq (s : State) : s.examined = s.softResetLatched.visitAll s.examinedVisit :=
  forAxes_eq_visitAll fun _ _ agrees => examine_eq_visit agrees

theorem ax_examined (s : State) (a : Axis) : s.examined.ax a = s.examinedAxis a := by rw [examined_eq, ax_visitAll]; rfl

theorem offersHalt_examined (s : State) : s.examined.OffersHalt s.faulty softResetReport fun _ => .drive := fun a => by
  rw [ax_examined, examinedAxis]
  refine ⟨fun there => ?_, fun out => ?_⟩
  · rw [if_pos there]
    exact ⟨rfl, rfl, rfl⟩
  · rw [if_neg (by simp [out])]
    split <;> rfl

/-- The places go to the faulty axes in the order A to D (R67). -/
theorem granted_examined (s : State) : s.examined.granted s.faulty = Axis.all.filter s.faulty := by
  have reports : s.examined.reports = State.reset.reports := (engine_examined s).reports
  rw [State.granted, reports]
  refine List.take_of_length_le ((List.length_filter_le _ _).trans ?_)
  decide

/-- An axis after SOFTRESET: its soft reset values, but for the state and the cause that the examination gives it. -/
theorem ax_applySoftreset (s : State) (a : Axis) : s.applySoftreset.ax a =
    if s.faulty a then { (s.ax a).softReset with mode := .halted, cause := .drive }
    else if s.enabled a && s.stop.qualified == .low then { (s.ax a).softReset with mode := .halted, cause := .stopLine }
    else (s.ax a).softReset := by
  have granted := settle_offersHalt fun _ => offersHalt_examined s
  rw [granted_examined] at granted
  rw [applySoftreset_eq, granted.axes, ax_examined]
  cases there : s.faulty a with
  | true =>
    rw [if_pos (List.mem_filter.2 ⟨Axis.mem_all a, there⟩), examinedAxis, if_pos there]
    rfl
  | false =>
    rw [if_neg (fun h => by simp [(List.mem_filter.1 h).2] at there), examinedAxis, if_neg (by simp [there]),
      if_neg Bool.false_ne_true]

/-- The state and the cause of an axis after SOFTRESET. -/
theorem mode_cause_softReset (s : State) (a : Axis) :
    ∃ mode cause, (if s.faulty a then { (s.ax a).softReset with mode := .halted, cause := .drive }
        else if s.enabled a && s.stop.qualified == .low then { (s.ax a).softReset with mode := .halted, cause := .stopLine }
        else (s.ax a).softReset) = { (s.ax a).softReset with mode := mode, cause := cause } ∧
      ((s.ax a).mode = .disabled → mode = .disabled ∧ cause = .none) ∧
      (a ∈ Axis.all.filter s.faulty → mode = .halted ∧ cause = .drive) ∧
      ((s.ax a).mode ≠ .disabled → a ∉ Axis.all.filter s.faulty → s.stop.qualified = .high → mode = .idle ∧ cause = .none) ∧
      ((s.ax a).mode ≠ .disabled → a ∉ Axis.all.filter s.faulty → s.stop.qualified = .low →
        mode = .halted ∧ cause = .stopLine) := by
  have inside : a ∈ Axis.all.filter s.faulty ↔ s.faulty a = true := by simp
  rw [inside]
  cases there : s.faulty a with
  | true =>
    have on : (s.ax a).mode ≠ .disabled := bne_iff_ne.1 (Bool.and_eq_true_iff.1 there).1
    exact ⟨.halted, .drive, rfl, fun off => absurd off on, fun _ => ⟨rfl, rfl⟩, fun _ out => absurd rfl out,
      fun _ out => absurd rfl out⟩
  | false =>
    rw [if_neg Bool.false_ne_true]
    by_cases stops : s.enabled a && s.stop.qualified == .low
    · obtain ⟨on, line⟩ := Bool.and_eq_true_iff.1 stops
      rw [if_pos stops]
      exact ⟨.halted, .stopLine, rfl, fun off => absurd off (bne_iff_ne.1 on), fun h => absurd h Bool.false_ne_true,
        fun _ _ high => by simp [high] at line, fun _ _ _ => ⟨rfl, rfl⟩⟩
    · rw [if_neg stops]
      exact ⟨(s.ax a).softReset.mode, .none, rfl, fun off => ⟨if_pos off, rfl⟩, fun h => absurd h Bool.false_ne_true,
        fun on _ _ => ⟨if_neg on, rfl⟩, fun on _ low => absurd (by simp [enabled, on, low]) stops⟩

/-- The reports of SOFTRESET stand from sequence 0 (R67, R136). -/
theorem deposited_softReset (s : State) (axes : List Axis) : s.softReset.deposited axes softResetReport =
    { reports := axes.zipIdx.map fun (a, i) =>
        { seq := BitVec.ofNat 8 i
          report := { axis := a, finding := .driveFault .driverInput, tag := 0, position := 0, aux := 0 } }
      seq := BitVec.ofNat 8 axes.length, last := axes.getLastD .D, pointer := 0 } := by
  have queue : s.softReset.reports = { reports := [], seq := 0, last := .D, pointer := 0 } := rfl
  have zero (i : Nat) : (0 : Byte) + BitVec.ofNat 8 i = BitVec.ofNat 8 i := BitVec.zero_add _
  simp only [State.deposited, queue, zero, List.nil_append]
  rfl

/-- Everything else after SOFTRESET. -/
theorem applySoftreset_framed (s : State) : s.applySoftreset =
    { s with
      axes := s.applySoftreset.axes, profiles := s.applySoftreset.profiles, gates := s.applySoftreset.gates
      poolFree := s.applySoftreset.poolFree, iflag := s.applySoftreset.iflag, cres := .ok
      reports := s.softReset.deposited (Axis.all.filter s.faulty) softResetReport } := by
  have granted := settle_offersHalt fun _ => offersHalt_examined s
  rw [granted_examined, ← applySoftreset_eq] at granted
  obtain ⟨axes, gates, profiles, pool, iflag, frame⟩ : ∃ axes gates profiles pool iflag, s.examined =
      { s.softReset with axes := axes, gates := gates, profiles := profiles, poolFree := pool, iflag := iflag } := by
    have frame := framed_visitAll s.softResetLatched s.examinedVisit
    rw [← examined_eq, Framed, softResetLatched_eq] at frame
    exact ⟨_, _, _, _, _, frame⟩
  have whole := granted.framed
  rw [frame] at whole
  generalize s.applySoftreset.axes = after at whole
  rw [whole]
  rfl

/-- The visits give up no move and withdraw from no gate: the uses and arrivals are those of the soft reset. -/
theorem applySoftreset_items (s : State) :
    s.applySoftreset.poolFree = 32 ∧ (∀ p, s.applySoftreset.prof p = { s.prof p with useCount := 0 }) ∧
      (∀ g, s.applySoftreset.gate g = { s.gate g with arrivals := 0, timer := none, useCount := 0 }) := by
  have granted := settle_offersHalt fun _ => offersHalt_examined s
  have gone : goneAll s.examinedVisit = [] := rfl
  rw [← applySoftreset_eq] at granted
  refine ⟨?_, fun p => ?_, fun g => ?_⟩
  · rw [granted.poolFree, examined_eq, poolFree_visitAll, gone, softResetLatched_eq]
    rfl
  · rw [granted.prof, examined_eq, prof_visitAll, gone, softResetLatched_eq]
    exact (softReset_items s .A 0 p).2.2
  · rw [granted.gate, examined_eq, gate_visitAll, gone, softResetLatched_eq, Gate.withdrawn_of_none (by intro a; rfl)]
    exact (softReset_items s .A g 0).2.1

theorem iflag_applySoftreset (s : State) :
    (s.applySoftreset.iflag.getLsbD 0 = true ↔ Axis.all.filter s.faulty ≠ []) ∧
    (s.applySoftreset.iflag.getLsbD 1 = true ↔
      Axis.all.filter s.faulty ≠ [] ∨ s.stop.qualified = .low ∧ ∃ a ∈ Axis.all, (s.ax a).mode ≠ .disabled) ∧
    (s.applySoftreset.iflag.getLsbD 2 = true ↔ s.stop.qualified = .low) := by
  have granted := settle_offersHalt fun _ => offersHalt_examined s
  rw [granted_examined, ← applySoftreset_eq] at granted
  have halts : Axis.all.any (fun a => (s.examinedVisit a).halts) = true ↔
      s.stop.qualified = .low ∧ ∃ a ∈ Axis.all, (s.ax a).mode ≠ .disabled := by
    simp only [examinedVisit, enabled, List.any_eq_true, Bool.and_eq_true, bne_iff_ne, beq_iff_eq]
    exact ⟨fun ⟨a, here, on, low⟩ => ⟨low, a, here, on⟩, fun ⟨low, a, here, on⟩ => ⟨a, here, on, low⟩⟩
  obtain ⟨report, halt, stopin⟩ := settled_flags (if s.stop.qualified = .low then flagSTOPIN else 0)
    (Axis.all.filter s.faulty = []) (Axis.all.any fun a => (s.examinedVisit a).halts)
  rw [granted.iflag, examined_eq, iflag_visitAll, softResetLatched_eq, ← halts]
  refine ⟨report.trans ?_, halt.trans ?_, stopin.trans ?_⟩ <;> by_cases low : s.stop.qualified = .low <;>
    simp [low, flagSTOPIN]

end State

theorem exec_softreset (operating : s.inReset = false) : exec .softreset s = .next s.applySoftreset :=
  congrArg Host.Outcome.next (operating_of_not_inReset s State.applySoftreset operating)

/-- Settles O42. -/
theorem softresetKeepsTheSetup : Obligations.SoftresetKeepsTheSetup := by
  intro s operating faulty
  have whole := State.applySoftreset_framed s
  obtain ⟨pool, prof, gate⟩ := State.applySoftreset_items s
  obtain ⟨report, halt, stopin⟩ := State.iflag_applySoftreset s
  have axis := State.ax_applySoftreset s
  have runs := exec_softreset operating
  generalize s.applySoftreset = t at *
  refine ⟨t, runs, pool, by rw [whole], ?_, by rw [whole], by rw [whole], by rw [whole], by rw [whole], by rw [whole],
    by rw [whole], by rw [whole]; exact operating, prof, gate, fun a _ => ?_, report, halt, stopin⟩
  · rw [whole]
    exact State.deposited_softReset s faulty
  · obtain ⟨mode, cause, is, disabled, low, idle, stopped⟩ := State.mode_cause_softReset s a
    rw [axis, is, ← compare_eq]
    exact ⟨rfl, rfl, rfl, rfl, rfl, rfl, rfl, rfl, rfl, rfl, rfl, rfl, rfl, rfl, rfl, rfl, rfl, rfl, rfl, rfl, rfl, disabled,
      fun there => ⟨(low there).1, (low there).2, by simp [AxisState.ena, (low there).2]⟩, idle, stopped⟩

end Sys2Proof.Machine
end


section
/-! SUPPORT. The proof about the firing of a gate: the starts of its members as visits. -/

namespace Sys2Proof.Machine

variable {s t u : State} {a : Axis} {m : Move} {g : GateTag}

namespace State

/-! ## The start of a move as a visit (R42) -/

/-- A move that ends at its start. -/
def endingVisit (s : State) (a : Axis) (m : Move) (position : Int) (k : Finding) : Visit :=
  { axis :=
      { (s.ax a).clearMove with
        mode := .reporting, position := position
        offer := some
          { report := { axis := a, finding := k, tag := m.tag, position := position, aux := 0 }, path := k.path } }
    gone := some m }

/-- A move that starts to run. -/
def runningVisit (s : State) (a : Axis) (m : Move) (p : ProfileNo) (d : Int) : Visit :=
  { axis := (s.ax a).startRun (s.prof p) p m.task d }

/-- The distance from the position of an axis to its planned end. -/
def toPlannedEnd (s : State) (a : Axis) : Int := (s.ax a).plannedEnd.getD (s.ax a).position - (s.ax a).position

def startVisit (s : State) (a : Axis) (m : Move) : Visit :=
  match m.task with
  | .dwell ms => { axis := (s.ax a).startDwell ms }
  | .seek v p z =>
    if (s.ax a).sens.qualified = (s.ax a).config.activeLevel then
      s.endingVisit a m (if z then 0 else (s.ax a).position) (.done .atOnce)
    else s.runningVisit a m p v
  | .absolute _ p mark | .relative _ p mark =>
    if s.toPlannedEnd a = 0 then
      s.endingVisit a m (s.ax a).position (if mark.isSome then .missed .planned else .done .plain)
    else s.runningVisit a m p (s.toPlannedEnd a)

theorem startVisit_of_dwell {ms : Nat} (task : m.task = .dwell ms) : s.startVisit a m = { axis := (s.ax a).startDwell ms } := by
  simp only [startVisit, task]

theorem startVisit_of_seek {v : Int} {p : ProfileNo} {z : Bool} (task : m.task = .seek v p z) :
    s.startVisit a m =
      if (s.ax a).sens.qualified = (s.ax a).config.activeLevel then
        s.endingVisit a m (if z then 0 else (s.ax a).position) (.done .atOnce)
      else s.runningVisit a m p v := by
  simp only [startVisit, task]

theorem startVisit_of_target {v : Int} {p : ProfileNo} {mark : Option MarkPart}
    (task : m.task = .absolute v p mark ∨ m.task = .relative v p mark) :
    s.startVisit a m =
      if s.toPlannedEnd a = 0 then
        s.endingVisit a m (s.ax a).position (if mark.isSome then .missed .planned else .done .plain)
      else s.runningVisit a m p (s.toPlannedEnd a) := by
  rcases task with task | task <;> simp only [startVisit, task]

theorem endMove_eq_endingVisit (current : (s.ax a).current = some m) (position : Int) (k : Finding) :
    (u.setAx a { s.ax a with position := position }).endMove a k 0 = u.visit a (s.endingVisit a m position k) :=
  endMove_eq_visit { s.ax a with position := position } current k 0

theorem startRun_eq_runningVisit (agrees : s.Agrees a u) (p : ProfileNo) (d : Int) :
    u.modAx a (·.startRun (u.prof p) p m.task d) = u.visit a (s.runningVisit a m p d) := by
  rw [State.modAx, agrees.axis, AxisState.startRun, agrees.decide]
  rfl

/-- The start of a move, as what its own axis and the profiles make of it. -/
theorem startMove_eq_visit (current : (s.ax a).current = some m) (agrees : s.Agrees a u) :
    u.startMove a = u.visit a (s.startVisit a m) := by
  have axis := agrees.axis
  have there : (u.ax a).current = some m := by rw [axis]; exact current
  have target {v : Int} {p : ProfileNo} {mark : Option MarkPart}
      (task : m.task = .absolute v p mark ∨ m.task = .relative v p mark) : u.startMove a = u.visit a (s.startVisit a m) := by
    have start : u.startMove a =
        if s.toPlannedEnd a = 0 then u.endMove a (if mark.isSome then .missed .planned else .done .plain) 0
        else u.modAx a (·.startRun (u.prof p) p m.task (s.toPlannedEnd a)) := by
      have distance : s.toPlannedEnd a = (u.ax a).plannedEnd.getD (u.ax a).position - (u.ax a).position := by rw [axis]; rfl
      rw [distance]
      rcases task with task | task <;> simp only [State.startMove, there, task]
    rw [start, startVisit_of_target task]
    split
    · rw [← endMove_eq_endingVisit current]
      refine congrArg (fun w : State => w.endMove a _ 0) ?_
      rw [← axis]
      exact (setAx_ax u a).symm
    · exact startRun_eq_runningVisit agrees p _
  cases task : m.task with
  | dwell ms =>
    rw [startMove_of_dwell there task, startVisit_of_dwell task, State.modAx, axis]
    rfl
  | seek v p z =>
    rw [startMove_of_seek there task, startVisit_of_seek task, axis]
    split
    · rw [← endMove_eq_endingVisit current, State.modAx, axis]
    · exact startRun_eq_runningVisit agrees p v
  | absolute v p mark => exact target (.inl task)
  | relative v p mark => exact target (.inr task)

/-! ## The firing of a gate (R43, R76) -/

/-- What the firing of a gate does to an axis, a member or not. -/
def firingVisit (s : State) (members : AxisSet) (a : Axis) : Visit :=
  if inSet members a then (s.ax a).current.elim { axis := s.ax a } (s.startVisit a) else { axis := s.ax a }

theorem firingVisit_of_member {members : AxisSet} (member : inSet members a = true) (current : (s.ax a).current = some m) :
    s.firingVisit members a = s.startVisit a m := by
  rw [firingVisit, if_pos member, current]
  rfl

theorem firingVisit_of_other {members : AxisSet} (other : inSet members a = false) :
    s.firingVisit members a = { axis := s.ax a } := by
  rw [firingVisit, if_neg (by simp [other])]

/-- The part with the gate emptied and its timer stopped, before the starts. -/
def fired (s : State) (g : GateTag) : State := s.modGate g fun q => { q with arrivals := 0, timer := none }

theorem startMove_of_member (agrees : (s.fired g).Agrees a u) (member : inSet (s.gate g).members a = true)
    (current : (s.ax a).current.isSome = true) : u.startMove a = u.visit a (s.firingVisit (s.gate g).members a) := by
  obtain ⟨m, there⟩ := Option.isSome_iff_exists.1 current
  rw [firingVisit_of_member member there]
  exact startMove_eq_visit (s := s.fired g) there agrees

theorem visit_of_other (agrees : (s.fired g).Agrees a u) (other : inSet (s.gate g).members a = false) :
    u = u.visit a (s.firingVisit (s.gate g).members a) := by
  have axis : u.ax a = s.ax a := agrees.axis
  rw [firingVisit_of_other other, ← axis, visit_same]

theorem starts_eq (current : ∀ a, inSet (s.gate g).members a = true → (s.ax a).current.isSome = true) :
    State.forAxes (fun a u => if inSet (s.gate g).members a then u.startMove a else u) (s.fired g) =
      (s.fired g).visitAll (s.firingVisit (s.gate g).members) := by
  refine forAxes_eq_visitAll fun a u agrees => ?_
  cases member : inSet (s.gate g).members a with
  | false => exact visit_of_other agrees member
  | true => exact startMove_of_member agrees member (current a member)

theorem fireGate_eq (complete : (s.gate g).arrivals = (s.gate g).members)
    (gated : ∀ a, inSet (s.gate g).members a = true → (s.ax a).mode = .gated ∧ (s.ax a).current.isSome = true) :
    s.fireGate g = (s.fired g).visitAll (s.firingVisit (s.gate g).members) := by
  unfold State.fireGate
  dsimp only
  rw [complete]
  refine forAxes_eq_visitAll fun a u agrees => ?_
  have axis : u.ax a = s.ax a := agrees.axis
  cases member : inSet (s.gate g).members a with
  | false =>
    rw [if_neg fun both => Bool.false_ne_true both.1]
    exact visit_of_other (g := g) agrees member
  | true =>
    obtain ⟨mode, current⟩ := gated a member
    rw [if_pos ⟨rfl, by rw [axis]; exact mode⟩]
    exact startMove_of_member (g := g) agrees member current

/-! ## What the visits of a firing give up and offer -/

theorem left_firingVisit (members : AxisSet) (a : Axis) : (s.firingVisit members a).left = none ∧
    (s.firingVisit members a).halts = false := by
  have start (m : Move) : (s.startVisit a m).left = none ∧ (s.startVisit a m).halts = false := by
    unfold startVisit
    split
    · exact ⟨rfl, rfl⟩
    all_goals split <;> exact ⟨rfl, rfl⟩
  unfold firingVisit
  split
  · cases (s.ax a).current with
    | none => exact ⟨rfl, rfl⟩
    | some m => exact start m
  · exact ⟨rfl, rfl⟩

/-- The moves given up, axis by axis. -/
theorem goneAll_eq {v : Axis → Visit} {ends : Axis → Bool} {current : Axis → Option Move}
    (h : ∀ a, (v a).gone = if ends a then current a else none) :
    goneAll v = (Axis.all.filter ends).filterMap current := by
  have each (l : List Axis) : l.flatMap (fun a => (v a).gone.toList) = (l.filter ends).filterMap current := by
    induction l with
    | nil => rfl
    | cons a l ih =>
      rw [List.flatMap_cons, ih, h]
      cases there : ends a with
      | false => rw [List.filter_cons_of_neg (by simp [there])]; rfl
      | true =>
        rw [List.filter_cons_of_pos there, List.filterMap_cons]
        cases current a <;> rfl
  exact each Axis.all

/-- Whether a move ends at its start (R42). -/
def endsAtStart (s : State) (a : Axis) (m : Move) : Bool :=
  match m.task with
  | .dwell _ => false
  | .seek _ _ _ => decide ((s.ax a).sens.qualified = (s.ax a).config.activeLevel)
  | .absolute _ _ _ | .relative _ _ _ => decide (s.toPlannedEnd a = 0)

theorem startVisit_of_ends (ends : s.endsAtStart a m = true) : (s.startVisit a m).gone = some m := by
  unfold endsAtStart at ends
  cases task : m.task <;> simp only [task, Bool.false_eq_true, decide_eq_true_eq] at ends
  case seek => rw [startVisit_of_seek task, if_pos ends]; rfl
  case absolute => rw [startVisit_of_target (.inl task), if_pos ends]; rfl
  case relative => rw [startVisit_of_target (.inr task), if_pos ends]; rfl

theorem startVisit_of_goes_on (goes_on : s.endsAtStart a m = false) :
    (s.startVisit a m).gone = none ∧ (s.startVisit a m).axis.offer = (s.ax a).offer := by
  unfold endsAtStart at goes_on
  cases task : m.task <;> simp only [task, decide_eq_false_iff_not] at goes_on
  case dwell => rw [startVisit_of_dwell task]; exact ⟨rfl, rfl⟩
  case seek => rw [startVisit_of_seek task, if_neg goes_on]; exact ⟨rfl, rfl⟩
  case absolute => rw [startVisit_of_target (.inl task), if_neg goes_on]; exact ⟨rfl, rfl⟩
  case relative => rw [startVisit_of_target (.inr task), if_neg goes_on]; exact ⟨rfl, rfl⟩

/-- Whether a member's move ends at the firing. -/
def endsAtFiring (s : State) (members : AxisSet) (a : Axis) : Bool := inSet members a && (s.ax a).current.any (s.endsAtStart a)

theorem gone_firingVisit (members : AxisSet) (a : Axis) :
    (s.firingVisit members a).gone = if s.endsAtFiring members a then (s.ax a).current else none := by
  unfold endsAtFiring
  cases member : inSet members a with
  | false => rw [firingVisit_of_other member]; rfl
  | true =>
    cases current : (s.ax a).current with
    | none => rw [firingVisit, if_pos member, current]; rfl
    | some m =>
      rw [firingVisit_of_member member current, Option.any_some, Bool.true_and]
      cases ends : s.endsAtStart a m with
      | false => exact (startVisit_of_goes_on ends).1
      | true => exact startVisit_of_ends ends

theorem offer_firingVisit {members : AxisSet} (goes_on : s.endsAtFiring members a = false) :
    (s.firingVisit members a).axis.offer = (s.ax a).offer := by
  cases member : inSet members a with
  | false => rw [firingVisit_of_other member]
  | true =>
    cases current : (s.ax a).current with
    | none => rw [firingVisit, if_pos member, current]; rfl
    | some m =>
      rw [firingVisit_of_member member current]
      exact (startVisit_of_goes_on (by simpa [endsAtFiring, member, current] using goes_on)).2

end State

/-- Settles O53: the firing and the starts as the same visits, and the start of each member by the kind of its move. -/
theorem gateFiringStartsEveryMember : Obligations.GateFiringStartsEveryMember := by
  intro s g operating shaped exact_s members complete fired started active still ends gone
  have gated (a : Axis) (member : inSet (s.gate g).members a = true) :
      (s.ax a).mode = .gated ∧ (s.ax a).current.isSome = true := by
    obtain ⟨mode, m, current, -⟩ := State.gated_of_waits (s := s) (g := g) exact_s (complete ▸ member)
    exact ⟨mode, by rw [current]; rfl⟩
  have starts : started = (s.fired g).visitAll (s.firingVisit (s.gate g).members) :=
    State.starts_eq (s := s) (g := g) fun a member => (gated a member).2
  have ends_eq : ends = s.endsAtFiring (s.gate g).members := by
    funext a
    refine congrArg (inSet (s.gate g).members a && ·) (congrArg ((s.ax a).current.any ·) (funext fun m => ?_))
    cases task : m.task <;> simp [State.endsAtStart, task, active, still, State.toPlannedEnd, sub_eq_zero, beq_eq_decide]
  have gone_eq : State.goneAll (s.firingVisit (s.gate g).members) = gone := by
    rw [State.goneAll_eq (State.gone_firingVisit (s := s) (s.gate g).members), ← ends_eq]
  have fires : exec (.gateFire g) s = .next started.settle := by
    have whole : (s.gate g).complete = true := by
      rw [Gate.complete, complete, beq_self_eq_true, Bool.true_and, Bool.not_eq_true', beq_eq_false_iff_ne]
      exact members
    rw [starts, ← State.fireGate_eq complete gated]
    exact congrArg _ ((operating_of_not_inReset s _ operating).trans (if_pos whole))
  have axis (a : Axis) : started.ax a = (s.firingVisit (s.gate g).members a).axis := by rw [starts, State.ax_visitAll]
  have frame : (s.fired g).Framed started := by rw [starts]; exact State.framed_visitAll _ _
  have reports : started.reports = s.reports := by rw [frame]; rfl
  have pool : started.poolFree = s.poolFree + gone.length := by rw [starts, State.poolFree_visitAll, gone_eq]; rfl
  have iflag : started.iflag = s.iflag := by
    have none : (Axis.all.any fun a => (s.firingVisit (s.gate g).members a).halts) = false :=
      List.any_eq_false.2 fun a _ => by rw [(State.left_firingVisit _ a).2]; exact Bool.false_ne_true
    rw [starts, State.iflag_visitAll, none]
    rfl
  refine ⟨fires, fun nothing quiet => ?_, ?_, fun p => ?_, fun h => ?_, fun a _ => ?_⟩
  · by_cases full : s.reports.reports.length = 16
    · exact settle_of_full _ (by rw [reports]; exact full.ge)
    · have none := nothing.resolve_right full
      have goes_on := quiet.resolve_right full
      refine settle_of_noOffers _ fun a here => ?_
      rw [axis, State.offer_firingVisit (by rw [← ends_eq]; exact goes_on a here)]
      exact none a here
  · rw [← pool, ← iflag]
    exact frame
  · rw [starts, State.prof_visitAll, gone_eq]
    rfl
  · rw [starts, State.gate_visitAll, gone_eq, Gate.withdrawn_of_none fun a => by rw [(State.left_firingVisit _ a).1]; rfl,
      State.fired, gate_modGate]
    by_cases e : h = g
    · simp [e]
    · simp [e]
  · intro x ended run
    rw [axis]
    refine ⟨fun other => by rw [State.firingVisit_of_other other], fun m member current => ?_⟩
    rw [State.firingVisit_of_member member current]
    refine ⟨fun ms task => ?_, fun e v p mark task plan => ?_, fun v p z task => ⟨fun on => ?_, fun off => ?_⟩⟩
    · rw [State.startVisit_of_dwell task]
      rfl
    · have distance : s.toPlannedEnd a = e - x.position := by rw [State.toPlannedEnd, plan]; rfl
      rw [State.startVisit_of_target task, distance]
      refine ⟨fun same => ?_, fun far => ?_⟩
      · rw [if_pos (by omega)]
        cases mark <;> rfl
      · rw [if_neg (by omega), State.runningVisit, AxisState.startRun, driveDir_eq, dirLevel_dirOf, armed_of_mark task]
        rfl
    · rw [State.startVisit_of_seek task, if_pos (of_decide_eq_true on)]
      rfl
    · rw [State.startVisit_of_seek task, if_neg (of_decide_eq_false off), State.runningVisit, AxisState.startRun, driveDir_eq,
        dirLevel_dirOf, task]
      rfl

end Sys2Proof.Machine
end


section
/-! SUPPORT. A stop that reaches the axes, as visits (R140 to R142). -/

namespace Sys2Proof.Machine

variable {s t u : State} {a : Axis} {m : Move} {source : StopSource}

namespace State

/-! ## What a stop makes of an axis -/

/-- Whether an axis stops under control. -/
def slowed (s : State) (a : Axis) : Bool := (s.ax a).mode.running && s.style == .controlled

/-- The step that the stop decides. -/
def stopStep (s : State) (a : Axis) : PendingStep := s.decided a (s.ax a).ramp.stoppingDistance

/-- Whether the interval of that step has passed. -/
def stopLate (s : State) (a : Axis) : Bool := decide ((s.stopStep a).interval ≤ (s.ax a).ramp.elapsed)

/-- The axis in STOPPING with that step. -/
def stoppingAxis (s : State) (source : StopSource) (a : Axis) : AxisState :=
  { s.ax a with
    mode := .stopping, intent := some (.stopped source)
    ramp := { (s.ax a).ramp with r := (s.ax a).ramp.stoppingDistance, step := some (s.stopStep a) } }

/-- That axis with the pulse emitted. -/
def stopPulsed (s : State) (source : StopSource) (a : Axis) : AxisState := (s.stoppingAxis source a).emit (s.stopStep a)

/-- Whether the stop ends the current move at its instant. -/
def endsAtStop (s : State) (a : Axis) : Bool :=
  (s.ax a).mode == .dwelling || (s.ax a).mode.running && s.style == .immediate ||
    s.slowed a && (s.ax a).ramp.stoppingDistance == 0 || s.slowed a && (s.ax a).ramp.stoppingDistance == 1 && s.stopLate a

/-- The axis at the end of its move. -/
def stopFinal (s : State) (source : StopSource) (a : Axis) : AxisState :=
  if s.slowed a then
    if (s.ax a).ramp.stoppingDistance = 0 then { s.ax a with ramp := { (s.ax a).ramp with r := 0 } } else s.stopPulsed source a
  else s.ax a

def stopReport (s : State) (source : StopSource) (a : Axis) : Report :=
  { axis := a, finding := .stopped source, tag := ((s.ax a).current.map (·.tag)).getD 0
    position := (s.stopFinal source a).position
    aux := if (s.ax a).mode = .dwelling then 0 else (s.stopFinal source a).ramp.stepsRun }

def stopEnding (s : State) (source : StopSource) (a : Axis) : Visit :=
  { axis :=
      { (s.stopFinal source a).clearMove with
        mode := .reporting, offer := some { report := s.stopReport source a, path := .halted source.cause } }
    gone := (s.ax a).current }

/-- The axis in STOPPING with more steps to run after its pulse. -/
def stopGoesOn (s : State) (source : StopSource) (a : Axis) : AxisState :=
  let x := s.stopPulsed source a
  { x with ramp := { x.ramp with step := some ((s.prof (s.ax a).ramp.profile).decide x.ramp.k x.ramp.r) } }

/-- The visit of a stop to one axis. -/
def stopVisit (s : State) (source : StopSource) (a : Axis) : Visit :=
  if s.endsAtStop a then s.stopEnding source a
  else if s.slowed a then { axis := if s.stopLate a then s.stopGoesOn source a else s.stoppingAxis source a }
  else
    match (s.ax a).mode with
    | .gated =>
      { axis := { (s.ax a).hold with mode := .halted, cause := (s.ax a).cause.enter source.cause }
        left := (s.ax a).current.bind (·.gate), halts := true }
    | .idle => { axis := { s.ax a with mode := .halted, cause := (s.ax a).cause.enter source.cause }, halts := true }
    | .reporting =>
      { axis :=
          { s.ax a with
            offer := (s.ax a).offer.map fun o => { o with path := if o.path = .cont then .halted source.cause else o.path } } }
    | .accel | .cruise | .decel | .dwelling | .stopping | .halted | .disabled => { axis := s.ax a }

/-! ## The visit by the state of the axis -/

theorem slowed_of_rest (rest : (s.ax a).mode.running = false) : s.slowed a = false := by rw [slowed, rest]; rfl

theorem ends_of_rest (rest : (s.ax a).mode.running = false) (still : (s.ax a).mode ≠ .dwelling) : s.endsAtStop a = false := by
  simp [endsAtStop, slowed, rest, still]

/-- A stop under control ends the move at once where nothing is left to run, or the last pulse alone and that is late. -/
theorem endsAtStop_of_slowed (slow : s.slowed a = true) :
    s.endsAtStop a = true ↔
      (s.ax a).ramp.stoppingDistance = 0 ∨ (s.ax a).ramp.stoppingDistance = 1 ∧ s.stopLate a = true := by
  obtain ⟨running, style⟩ := Bool.and_eq_true_iff.1 slow
  have moving : (s.ax a).mode ≠ .dwelling := by intro e; rw [e] at running; cases running
  simp [endsAtStop, slow, beq_iff_eq.1 style, moving]

theorem stopVisit_of_ends (ends : s.endsAtStop a = true) : s.stopVisit source a = s.stopEnding source a := if_pos ends

theorem stopVisit_of_slowed (slow : s.slowed a = true) (more : s.endsAtStop a = false) :
    s.stopVisit source a = { axis := if s.stopLate a then s.stopGoesOn source a else s.stoppingAxis source a } := by
  rw [stopVisit, if_neg (by simp [more]), if_pos slow]

theorem stopVisit_of_gated (gated : (s.ax a).mode = .gated) :
    s.stopVisit source a =
      { axis := { (s.ax a).hold with mode := .halted, cause := (s.ax a).cause.enter source.cause }
        left := (s.ax a).current.bind (·.gate), halts := true } := by
  rw [stopVisit, ends_of_rest (by rw [gated]; rfl) (by simp [gated]), slowed_of_rest (by rw [gated]; rfl)]
  simp only [gated, Bool.false_eq_true, if_false]

theorem stopVisit_of_idle (idle : (s.ax a).mode = .idle) :
    s.stopVisit source a =
      { axis := { s.ax a with mode := .halted, cause := (s.ax a).cause.enter source.cause }, halts := true } := by
  rw [stopVisit, ends_of_rest (by rw [idle]; rfl) (by simp [idle]), slowed_of_rest (by rw [idle]; rfl)]
  simp only [idle, Bool.false_eq_true, if_false]

theorem stopVisit_of_reporting (reporting : (s.ax a).mode = .reporting) :
    s.stopVisit source a =
      { axis :=
          { s.ax a with
            offer := (s.ax a).offer.map fun o => { o with path := if o.path = .cont then .halted source.cause else o.path } } } := by
  rw [stopVisit, ends_of_rest (by rw [reporting]; rfl) (by simp [reporting]), slowed_of_rest (by rw [reporting]; rfl)]
  simp only [reporting, Bool.false_eq_true, if_false]

theorem stopVisit_of_other (other : (s.ax a).mode = .disabled ∨ (s.ax a).mode = .stopping ∨ (s.ax a).mode = .halted) :
    s.stopVisit source a = { axis := s.ax a } := by
  rcases other with mode | mode | mode <;>
    rw [stopVisit, ends_of_rest (by rw [mode]; rfl) (by simp [mode]), slowed_of_rest (by rw [mode]; rfl)] <;>
    simp only [mode, Bool.false_eq_true, if_false]

/-! ## The stop of an axis is its visit -/

theorem path_stopped (source : StopSource) : (Finding.stopped source).path = .halted source.cause := by cases source <;> rfl

/-- An end that leaves of the axis what the stop's end leaves of it. -/
theorem endMove_eq_stopEnding (current : (s.ax a).current = some m) {x : AxisState} {aux : Nat} (there : x.current = some m)
    (same : x.rested = (s.stopFinal source a).rested)
    (counts : (if (s.ax a).mode = .dwelling then 0 else (s.stopFinal source a).ramp.stepsRun) = aux) :
    (u.setAx a x).endMove a (.stopped source) aux = u.visit a (s.stopEnding source a) := by
  rw [endMove_eq_endedWaiting (m := m) (by rw [ax_setAx_self]; exact there), endedWaiting_setAx, same, path_stopped,
    stopEnding, stopReport, counts, current]
  rfl

/-- A pulse leaves STOPPING as it is. -/
theorem mode_emit_of_stopping {x : AxisState} (h : x.mode = .stopping) (st : PendingStep) : (x.emit st).mode = .stopping := if_pos h

/-- The last pulse of a stop under control ends the move. -/
theorem last_pulse_eq_visit (current : (s.ax a).current = some m) (moving : (s.ax a).mode ≠ .dwelling) (slow : s.slowed a = true)
    (last : (s.ax a).ramp.stoppingDistance = 1) :
    (u.setAx a (s.stoppingAxis source a)).pulse a = u.visit a (s.stopEnding source a) := by
  have self : (u.setAx a (s.stoppingAxis source a)).ax a = s.stoppingAxis source a := ax_setAx_self u a _
  have emitted : (u.setAx a (s.stoppingAxis source a)).emitted a (s.stopStep a) = u.setAx a (s.stopPulsed source a) := by
    rw [emitted, self, setAx_setAx]
    rfl
  have stopping : (s.stopPulsed source a).mode = .stopping := mode_emit_of_stopping rfl _
  have final : s.stopFinal source a = s.stopPulsed source a := by
    rw [stopFinal, if_pos slow, if_neg (by omega)]
  rw [pulse_of_last (st := s.stopStep a) (by rw [self]; rfl) (by rw [self]; exact last), emitted,
    endAtRest_of_intent (k := .stopped source) (by rw [ax_setAx_self]; exact stopping) (by rw [ax_setAx_self]; rfl), ax_setAx_self]
  exact endMove_eq_stopEnding current current (by rw [final]) (by rw [if_neg moving, final])

section Visits
variable (agrees : s.Agrees a u)
include agrees

theorem style_of_agrees : u.style = s.style := by rw [agrees.framed]

theorem decided_of_agrees (r : Nat) : u.decided a r = s.decided a r := by
  rw [decided, agrees.decide, agrees.axis]
  rfl

theorem stoppingPlan_of_agrees : u.stoppingPlan a (.stopped source) = u.setAx a (s.stoppingAxis source a) := by
  rw [stoppingPlan, decided_of_agrees agrees, agrees.axis]
  rfl

/-- The pulse of a stop under control, with more steps to run. -/
theorem pulse_eq_visit (more : 2 ≤ (s.ax a).ramp.stoppingDistance) :
    (u.setAx a (s.stoppingAxis source a)).pulse a = u.visit a { axis := s.stopGoesOn source a } := by
  have self : (u.setAx a (s.stoppingAxis source a)).ax a = s.stoppingAxis source a := ax_setAx_self u a _
  have emitted : (u.setAx a (s.stoppingAxis source a)).emitted a (s.stopStep a) = u.setAx a (s.stopPulsed source a) := by
    rw [emitted, self, setAx_setAx]
    rfl
  have stopping : ((s.stoppingAxis source a).emit (s.stopStep a)).mode = .stopping := mode_emit_of_stopping rfl _
  have pos : 0 < (s.stopPulsed source a).ramp.r := by
    show 0 < (s.ax a).ramp.stoppingDistance - 1
    omega
  rw [pulse_of_more (st := s.stopStep a) (by rw [self]; rfl) (by rw [self]; exact more), self,
    if_neg fun closes => closes.1 stopping, emitted, replan_of_pos _ _ (by exact pos), State.modAx, setAx_setAx, ax_setAx_self,
    prof_setAx, agrees.decide]
  rfl

variable (current : (s.ax a).current = some m)
include current

theorem controlledStop_eq_visit (slow : s.slowed a = true) :
    u.controlledStop a (some (.stopped source)) = u.visit a (s.stopVisit source a) := by
  have axis := agrees.axis
  have there : (u.ax a).current = some m := by rw [axis]; exact current
  have same : (u.decided a (u.ax a).ramp.stoppingDistance) = s.stopStep a := by
    rw [decided_of_agrees agrees, axis]; rfl
  obtain ⟨running, -⟩ := Bool.and_eq_true_iff.1 slow
  have moving : (s.ax a).mode ≠ .dwelling := by intro e; rw [e] at running; cases running
  rcases Nat.eq_zero_or_pos (s.ax a).ramp.stoppingDistance with zero | pos
  · have ends : s.endsAtStop a = true := (endsAtStop_of_slowed slow).2 (.inl zero)
    have final : s.stopFinal source a = { s.ax a with ramp := { (s.ax a).ramp with r := 0 } } := by
      rw [stopFinal, if_pos slow, if_pos zero]
    have rest : (u.stopping a (.stopped source)).atRest a = u.setAx a
        { s.ax a with
          mode := .stopping, intent := some (.stopped source), ramp := { (s.ax a).ramp with r := 0, step := none } } := by
      rw [atRest, stopping, ax_setAx_self, setAx_setAx, axis]
    rw [controlledStop_zero there (by rw [axis]; exact zero), stopVisit_of_ends ends, rest, axis]
    exact endMove_eq_stopEnding current current (by rw [final]; rfl) (by rw [if_neg moving, final])
  · cases late : s.stopLate a with
    | false =>
      have early : (s.ax a).ramp.elapsed < (s.stopStep a).interval := by simpa [stopLate] using late
      have more : s.endsAtStop a = false := by
        simp [Bool.eq_false_iff, endsAtStop_of_slowed slow, late, Nat.ne_of_gt pos]
      rw [controlledStop_of_early (by rw [axis]; exact pos) (by rw [same, axis]; exact early), stoppingPlan_of_agrees agrees,
        stopVisit_of_slowed slow more, late]
      rfl
    | true =>
      have passed : (s.stopStep a).interval ≤ (s.ax a).ramp.elapsed := by simpa [stopLate] using late
      rw [controlledStop_of_late (by rw [axis]; exact pos) (by rw [same, axis]; exact passed), stoppingPlan_of_agrees agrees]
      by_cases last : (s.ax a).ramp.stoppingDistance = 1
      · rw [stopVisit_of_ends ((endsAtStop_of_slowed slow).2 (.inr ⟨last, late⟩))]
        exact last_pulse_eq_visit current moving slow last
      · rw [stopVisit_of_slowed slow (by simp [Bool.eq_false_iff, endsAtStop_of_slowed slow, last, Nat.ne_of_gt pos]), late, if_pos rfl]
        exact pulse_eq_visit agrees (by omega)

end Visits

theorem stopAxis_eq_visit (shaped : (s.ax a).shaped = true) (agrees : s.Agrees a u) :
    State.stopAxis source a u = u.visit a (s.stopVisit source a) := by
  have axis := agrees.axis
  have shape := AxisState.shape shaped
  have running (run : (s.ax a).mode.running = true) :
      (match u.style with
        | .controlled => u.controlledStop a (some (.stopped source))
        | .immediate => u.endMove a (.stopped source) (u.ax a).ramp.stepsRun) = u.visit a (s.stopVisit source a) := by
    obtain ⟨⟨m, -, current, -⟩, -⟩ := shape.moving (.inl run)
    rw [style_of_agrees agrees]
    cases style : s.style with
    | controlled => exact controlledStop_eq_visit agrees current (by simp [slowed, run, style])
    | immediate =>
      have fast : s.slowed a = false := by simp [slowed, style]
      have final : s.stopFinal source a = s.ax a := by rw [stopFinal, fast, if_neg Bool.false_ne_true]
      have moving : (s.ax a).mode ≠ .dwelling := by intro e; rw [e] at run; cases run
      rw [stopVisit_of_ends (by simp [endsAtStop, run, style]), ← endMove_eq_stopEnding current current (by rw [final])
        (by rw [if_neg moving, final]), axis, ← axis, setAx_ax]
  unfold State.stopAxis
  dsimp only
  split <;> rename_i mode <;> rw [axis] at mode
  · exact running (by rw [mode]; rfl)
  · exact running (by rw [mode]; rfl)
  · exact running (by rw [mode]; rfl)
  · obtain ⟨⟨m, ms, current, -⟩, -⟩ := shape.dwelling mode
    have final : s.stopFinal source a = s.ax a := by
      rw [stopFinal, slowed_of_rest (by rw [mode]; rfl), if_neg Bool.false_ne_true]
    rw [stopVisit_of_ends (by simp [endsAtStop, mode]), ← endMove_eq_stopEnding current current (by rw [final])
      (if_pos mode), ← axis, setAx_ax]
  · obtain ⟨⟨m, g, current, gate⟩, -⟩ := shape.gated mode
    have there : (u.ax a).current = some m := by rw [axis]; exact current
    rw [withdraw_of_gate there gate, State.enterHalted, modAx_modAx, stopVisit_of_gated mode, current, Option.bind_some, gate,
      State.modAx, show (u.modGate g (·.withdraw a)).ax a = s.ax a from axis]
    rfl
  · rw [enterHalted_eq_visit, stopVisit_of_idle mode, axis]
  · rw [stopVisit_of_reporting mode, State.modAx, axis]
    rfl
  · rw [stopVisit_of_other (.inr (.inl mode)), ← axis, visit_same]
  · rw [stopVisit_of_other (.inr (.inr mode)), ← axis, visit_same]
  · rw [stopVisit_of_other (.inl mode), ← axis, visit_same]

end State
end Sys2Proof.Machine
end


section
/-! SUPPORT. The proof about HALTALL and /STOP assertions: what a stop offers, and what stands when the places are granted. -/

namespace Sys2Proof.Machine

variable {s t u : State} {a : Axis} {m : Move} {source : StopSource} {c : Instr}

namespace State

/-! ## What a stop ends and offers -/

/-- An axis whose move the stop ends. -/
theorem facts_of_ends (shaped : s.Shaped) (ends : s.endsAtStop a = true) :
    (∃ m, (s.ax a).current = some m) ∧ (s.ax a).offer = none ∧ (s.ax a).owed = none ∧ (s.ax a).cause = .none ∧
      (s.ax a).mode ≠ .gated := by
  have shape := AxisState.shape (shaped a (Axis.mem_all a))
  have moves : (s.ax a).mode = .dwelling ∨ (s.ax a).mode.running = true := by
    simp only [endsAtStop, slowed, Bool.or_eq_true, Bool.and_eq_true, beq_iff_eq] at ends
    tauto
  rcases moves with mode | run
  · obtain ⟨⟨m, ms, current, -⟩, -, offer⟩ := shape.dwelling mode
    exact ⟨⟨m, current⟩, offer, shape.owed (by simp [mode]), shape.cause (by simp [mode]) (by simp [mode]), by simp [mode]⟩
  · obtain ⟨⟨m, p, current, -⟩, -, offer⟩ := shape.moving (.inl run)
    have not (w : Mode) (rest : w.running = false) : (s.ax a).mode ≠ w := by
      intro e; rw [e, rest] at run; cases run
    exact ⟨⟨m, current⟩, offer, shape.owed (not _ rfl), shape.cause (not _ rfl) (not _ rfl), not _ rfl⟩

theorem stopFinal_items (source : StopSource) (a : Axis) :
    (s.stopFinal source a).owed = (s.ax a).owed ∧ (s.stopFinal source a).offer = (s.ax a).offer ∧
      (s.stopFinal source a).cause = (s.ax a).cause := by
  unfold stopFinal
  split
  · split <;> exact ⟨rfl, rfl, rfl⟩
  · exact ⟨rfl, rfl, rfl⟩

/-- A visit that ends no move offers what the axis offered, with another path at most. -/
theorem offer_stopVisit (quiet : (s.ax a).offer = none) (more : s.endsAtStop a = false) :
    (s.stopVisit source a).axis.offer = none := by
  cases slow : s.slowed a with
  | true =>
    rw [stopVisit_of_slowed slow more]
    cases s.stopLate a <;> exact quiet
  | false =>
    unfold stopVisit
    rw [more, slow, if_neg Bool.false_ne_true, if_neg Bool.false_ne_true]
    cases mode : (s.ax a).mode <;> simp [quiet, AxisState.hold]

/-- The part a stop reaches: the result code of HALTALL, or the acceptance of /STOP with STOPIN latched. -/
def stopBase (s : State) (c : Instr) : State :=
  { s with
    cres := if c = .haltall then .ok else s.cres
    stop := if c = .haltall then s.stop else { s.stop with qualified := .low, count := none }
    iflag := if c = .haltall then s.iflag else s.iflag ||| flagSTOPIN }

theorem stopAll_eq (shaped : s.Shaped) (source : StopSource) (c : Instr) :
    (s.stopBase c).stopAll source = (s.stopBase c).visitAll (s.stopVisit source) :=
  forAxes_eq_visitAll fun a _ agrees => stopAxis_eq_visit (s := s.stopBase c) (shaped a (Axis.mem_all a)) agrees

theorem offersHalt_stopAll (shaped : s.Shaped) (none : s.NoOffers) :
    ((s.stopBase c).visitAll (s.stopVisit source)).OffersHalt s.endsAtStop (s.stopReport source) fun _ => source.cause := fun a => by
  rw [ax_visitAll]
  refine ⟨fun ends => ?_, fun more => offer_stopVisit (none a (Axis.mem_all a)) more⟩
  obtain ⟨-, -, owed, -, -⟩ := facts_of_ends shaped ends
  rw [stopVisit_of_ends ends]
  exact ⟨rfl, (stopFinal_items source a).1.trans owed, rfl⟩

/-! ## What the visits of a stop give up, withdraw and latch -/

theorem gone_stopVisit (source : StopSource) (a : Axis) :
    (s.stopVisit source a).gone = if s.endsAtStop a then (s.ax a).current else none := by
  cases ends : s.endsAtStop a with
  | true => rw [stopVisit_of_ends ends]; rfl
  | false =>
    cases slow : s.slowed a with
    | true => rw [stopVisit_of_slowed slow ends]; rfl
    | false =>
      rw [stopVisit, ends, slow, if_neg Bool.false_ne_true, if_neg Bool.false_ne_true]
      cases mode : (s.ax a).mode <;> rfl

/-- The visits withdraw and latch in the states where the axis enters HALTED silently. -/
theorem left_stopVisit (source : StopSource) (a : Axis) :
    (s.stopVisit source a).left = (if (s.ax a).mode = .gated then (s.ax a).current.bind (·.gate) else none) ∧
    (s.stopVisit source a).halts = ((s.ax a).mode == .idle || (s.ax a).mode == .gated) := by
  by_cases rest : (s.ax a).mode = .gated ∨ (s.ax a).mode = .idle
  · rcases rest with mode | mode
    · rw [stopVisit_of_gated mode, mode]
      exact ⟨rfl, rfl⟩
    · rw [stopVisit_of_idle mode, mode]
      exact ⟨rfl, rfl⟩
  · have gated : (s.ax a).mode ≠ .gated := fun e => rest (.inl e)
    have idle : (s.ax a).mode ≠ .idle := fun e => rest (.inr e)
    rw [if_neg gated, beq_false_of_ne gated, beq_false_of_ne idle]
    unfold stopVisit
    split
    · exact ⟨rfl, rfl⟩
    split
    · exact ⟨rfl, rfl⟩
    split
    · next e => exact absurd e gated
    · next e => exact absurd e idle
    all_goals exact ⟨rfl, rfl⟩

/-- Every waiting axis is withdrawn from its gate. -/
theorem leaves_stopVisit (exact_s : s.ArrivalsExact) (source : StopSource) (g : GateTag) (a : Axis) :
    ((s.stopVisit source a).left == some g) = inSet (s.gate g).arrivals a := by
  rw [(left_stopVisit source a).1, exact_s g a (Axis.mem_all a)]
  by_cases gated : (s.ax a).mode = .gated
  · rw [if_pos gated, gated, beq_self_eq_true, Bool.true_and]
    cases (s.ax a).current <;> rfl
  · rw [if_neg gated, beq_false_of_ne gated]
    rfl

theorem halts_stopVisit (source : StopSource) : Axis.all.any (fun a => (s.stopVisit source a).halts) = true ↔
    ∃ a ∈ Axis.all, (s.ax a).mode = .idle ∨ (s.ax a).mode = .gated := by
  simp [List.any_eq_true, (left_stopVisit source _).2]

end State

theorem exec_stop (operating : s.inReset = false)
    (h : c = .haltall ∧ source = .command ∨ c = .stopAssertion ∧ source = .line ∧ s.stop.counting .low = true) :
    exec c s = .next ((s.stopBase c).stopAll source).settle := by
  rcases h with ⟨rfl, rfl⟩ | ⟨rfl, rfl, counting⟩
  · exact exec_haltall operating
  · exact exec_stopAssertion operating counting

theorem iflag_stopBase (h : c = .haltall ∨ c = .stopAssertion) :
    ((s.stopBase c).iflag.getLsbD 0 = true ↔ s.iflag.getLsbD 0 = true) ∧
    ((s.stopBase c).iflag.getLsbD 1 = true ↔ s.iflag.getLsbD 1 = true) ∧
    ((s.stopBase c).iflag.getLsbD 2 = true ↔ s.iflag.getLsbD 2 = true ∨ c = .stopAssertion) := by
  rcases h with rfl | rfl
  · simp [State.stopBase]
  · simp [State.stopBase, flagSTOPIN]

/-- Settles O41: the visits of the four axes, and the places granted to those whose moves end. -/
theorem stopsReachEveryAxis : Obligations.StopsReachEveryAxis := by
  intro s c source operating nothing shaped exact_s event cause n step late slowed stopping pulsed ends final report gone
  have run := exec_stop operating event
  rw [State.stopAll_eq shaped] at run
  have reports : ((s.stopBase c).visitAll (s.stopVisit source)).reports = s.reports := by
    rw [State.framed_visitAll (s.stopBase c) (s.stopVisit source)]; rfl
  have granted := State.settle_offersHalt (s := (s.stopBase c).visitAll (s.stopVisit source)) (offers := ends)
    (report := report) (cause := fun _ => source.cause) fun room =>
      State.offersHalt_stopAll shaped (nothing.resolve_right (by rw [reports] at room; omega))
  have list : ((s.stopBase c).visitAll (s.stopVisit source)).granted ends = s.granted ends := by rw [State.granted, reports]; rfl
  rw [list] at granted
  have gone_eq : State.goneAll (s.stopVisit source) = gone := State.goneAll_eq (State.gone_stopVisit (s := s) source)
  have axes := State.ax_visitAll (s.stopBase c) (s.stopVisit source)
  have prof := State.prof_visitAll (s.stopBase c) (s.stopVisit source)
  have gate := State.gate_visitAll (s.stopBase c) (s.stopVisit source)
  have iflag := State.iflag_visitAll (s.stopBase c) (s.stopVisit source)
  have pool := State.poolFree_visitAll (s.stopBase c) (s.stopVisit source)
  have frame := State.framed_visitAll (s.stopBase c) (s.stopVisit source)
  rw [gone_eq] at pool
  simp only [gone_eq] at prof gate
  rw [State.Framed, pool] at frame
  generalize (s.stopBase c).visitAll (s.stopVisit source) = v at *
  generalize v.settle = t at *
  obtain ⟨report_flag, halt_flag, stopin_flag⟩ := State.settled_flags (s.stopBase c).iflag (s.granted ends = [])
    (Axis.all.any fun a => (s.stopVisit source a).halts)
  obtain ⟨base_report, base_halt, base_stopin⟩ := iflag_stopBase (s := s) (event.imp And.left And.left)
  refine ⟨t, run, ?_, ?_, ?_, ?_, fun p => ?_, fun g => ?_, fun a _ => ?_⟩
  · have whole := granted.framed
    rw [frame] at whole
    generalize t.axes = after at whole
    rw [whole]
    rfl
  · rw [granted.iflag, iflag]
    exact report_flag.trans (or_congr base_report Iff.rfl)
  · rw [granted.iflag, iflag, ← State.halts_stopVisit source]
    exact halt_flag.trans (or_congr base_halt Iff.rfl)
  · rw [granted.iflag, iflag]
    exact stopin_flag.trans base_stopin
  · rw [granted.prof, prof]
    rfl
  · rw [granted.gate, gate, show (s.stopBase c).gate g = s.gate g from rfl, Gate.withdrawn_of_all (State.leaves_stopVisit exact_s source g)]
  · have is_cause : cause = source.cause := by cases source <;> rfl
    have shape := AxisState.shape (shaped a (Axis.mem_all a))
    have still (more : s.endsAtStop a = false) : t.ax a = (s.stopVisit source a).axis := by
      rw [granted.axes, axes]
      refine if_neg fun there => ?_
      have ends : s.endsAtStop a = true := State.offers_of_granted there
      rw [more] at ends
      cases ends
    have rests {w : Mode} (mode : (s.ax a).mode = w) (rest : w.running = false) (stands : w ≠ .dwelling) :
        t.ax a = (s.stopVisit source a).axis :=
      still (State.ends_of_rest (by rw [mode]; exact rest) (by rw [mode]; exact stands))
    have uncaused {w : Mode} (mode : (s.ax a).mode = w) (answered : w ≠ .reporting) (runs : w ≠ .halted) :
        (s.ax a).cause = .none := shape.cause (mode ▸ answered) (mode ▸ runs)
    have entered (none : (s.ax a).cause = .none) : (s.ax a).cause.enter source.cause = cause := by
      rw [none, is_cause]
      cases source <;> rfl
    intro x
    refine ⟨fun other => ?_, fun idle => ?_, fun gated => ?_, fun o reporting offer => ?_, fun there => ?_, fun left => ?_,
      fun slow pos early => ?_, fun slow more late => ?_⟩
    · have more : s.endsAtStop a = false := by
        rcases other with mode | mode | mode <;> exact State.ends_of_rest (by rw [mode]; rfl) (by rw [mode]; simp)
      rw [still more, State.stopVisit_of_other other]
    · rw [rests idle rfl (by simp), State.stopVisit_of_idle idle]
      exact congrArg (fun cause => { x with mode := .halted, cause := cause })
        (entered (uncaused idle (by simp) (by simp)))
    · rw [rests gated rfl (by simp), State.stopVisit_of_gated gated]
      exact congrArg (fun cause => { x.hold with mode := .halted, cause := cause })
        (entered (uncaused gated (by simp) (by simp)))
    · rw [rests reporting rfl (by simp), State.stopVisit_of_reporting reporting, is_cause, offer]
      rfl
    · have ends := State.offers_of_granted there
      obtain ⟨-, no_offer, -, no_cause, -⟩ := State.facts_of_ends shaped ends
      obtain ⟨-, offer, final_cause⟩ := State.stopFinal_items (s := s) source a
      rw [granted.axes, if_pos there, axes, State.stopVisit_of_ends ends]
      exact congrArg₂ (fun o cause => { (final a).clearMove with mode := .halted, offer := o, cause := cause })
        (offer.trans no_offer).symm ((congrArg (·.enter source.cause) final_cause).trans (entered no_cause))
    · rw [granted.axes, if_neg (State.not_granted_of_ungranted left), axes,
        State.stopVisit_of_ends (State.offers_of_ungranted left), is_cause]
      rfl
    · have late : s.stopLate a = false := early
      have more : s.endsAtStop a = false := by
        simp [Bool.eq_false_iff, State.endsAtStop_of_slowed slow, late, show (s.ax a).ramp.stoppingDistance ≠ 0 from pos.ne']
      rw [still more, State.stopVisit_of_slowed slow more, late]
      rfl
    · have late : s.stopLate a = true := late
      have many : 2 ≤ (s.ax a).ramp.stoppingDistance := more
      have more : s.endsAtStop a = false := by
        rw [Bool.eq_false_iff, Ne, State.endsAtStop_of_slowed slow]
        omega
      rw [still more, State.stopVisit_of_slowed slow more, late]
      rfl

end Sys2Proof.Machine
end
